-- ==== Sys2Proof/Word.lean ====
section
/-! DEFINITION. The words of the interface: bytes, shades, offsets and the request the scheduler hands the block. -/

namespace Sys2Proof

/-- A register, a byte of VRAM or OAM, a data operand (R9, R61). -/
abbrev Byte := BitVec 8

/-- A 2-bit colour index before a palette, or a 2-bit shade after it (R94). -/
abbrev Shade := BitVec 2

/-- The `addr` field of a request word (R81). -/
abbrev Offset := BitVec 16

/-- One request: the 19-bit request word and the data byte beside it (R80, R81). Only the writing kinds look at the data
byte (DESIGN CHOICE, entry 2). -/
structure Request where
  word : BitVec 19
  data : Byte
  deriving DecidableEq, Repr

/-- Bits 18..16 of a request word (R81). -/
def Request.kind (r : Request) : BitVec 3 := r.word.extractLsb' 16 3

/-- Bits 15..0 of a request word (R81). -/
def Request.addr (r : Request) : Offset := r.word.extractLsb' 0 16

end Sys2Proof
end

