-- ==== Sys2Proof/Syntax.lean ====
section
/-! DEFINITION. The requests of the interface, one constructor per row of spec/opcode_table.json (R3, R80). -/

namespace Sys2Proof

/-- A request with its operands. `a` is the 16-bit offset of the word, `d` the data byte (R80, R81). -/
inductive Instr where
  /-- STEP: advance one dot (R150). -/
  | step
  /-- RD_LCDC (R112). -/
  | rdLcdc
  /-- RD_STAT (R113). -/
  | rdStat
  /-- RD_SCY (R114). -/
  | rdScy
  /-- RD_SCX (R115). -/
  | rdScx
  /-- RD_LY (R116). -/
  | rdLy
  /-- RD_LYC (R117). -/
  | rdLyc
  /-- RD_BGP (R118). -/
  | rdBgp
  /-- RD_OBP0 (R119). -/
  | rdObp0
  /-- RD_OBP1 (R120). -/
  | rdObp1
  /-- RD_WY (R121). -/
  | rdWy
  /-- RD_WX (R122). -/
  | rdWx
  /-- WR_LCDC (R123). -/
  | wrLcdc (d : Byte)
  /-- WR_STAT (R124). -/
  | wrStat (d : Byte)
  /-- WR_SCY (R125). -/
  | wrScy (d : Byte)
  /-- WR_SCX (R126). -/
  | wrScx (d : Byte)
  /-- WR_LY (R127). -/
  | wrLy (d : Byte)
  /-- WR_LYC (R128). -/
  | wrLyc (d : Byte)
  /-- WR_BGP (R129). -/
  | wrBgp (d : Byte)
  /-- WR_OBP0 (R130). -/
  | wrObp0 (d : Byte)
  /-- WR_OBP1 (R131). -/
  | wrObp1 (d : Byte)
  /-- WR_WY (R132). -/
  | wrWy (d : Byte)
  /-- WR_WX (R133). -/
  | wrWx (d : Byte)
  /-- VRD: bus read of the tile/map storage (R140). -/
  | vrd (a : Offset)
  /-- VWR: bus write of the tile/map storage (R141). -/
  | vwr (a : Offset) (d : Byte)
  /-- ORD: bus read of the attribute table (R142). -/
  | ord (a : Offset)
  /-- OWR: bus write of the attribute table (R143). -/
  | owr (a : Offset) (d : Byte)
  /-- DMA: the DMA collaborator's write of the attribute table (R144). -/
  | dma (a : Offset) (d : Byte)
  deriving DecidableEq, Repr

end Sys2Proof
end

