-- ==== Sys2Proof/WellFormed.lean ====
section
/-! DEFINITION. Which request words name something in the block (R82, R85). The operands of an `Instr` are exactly as wide
as their fields (R81, R86), so every term of `Instr` is well formed; what can be ill formed is a request WORD, and the
checks are made there. -/

namespace Sys2Proof

/-- The register selects that name a register: 0..5 and 7..11 (R82). -/
def selectNamesRegister (sel : Offset) : Bool := sel.toNat ≤ 0xB && sel.toNat != 0x6

/-- R85, first check: a STEP word has `addr = 0`. -/
def Request.stepAddrOk (r : Request) : Bool := r.kind != 0 || r.addr == 0

/-- R85, second check: a REG_READ word selects a register. -/
def Request.readSelectOk (r : Request) : Bool := r.kind != 1 || selectNamesRegister r.addr

/-- R85, third check: a REG_WRITE word selects a register. -/
def Request.writeSelectOk (r : Request) : Bool := r.kind != 2 || selectNamesRegister r.addr

/-- The request names something in the block: none of the reserved encodings of R85. -/
def Request.wellFormed (r : Request) : Bool := r.stepAddrOk && r.readSelectOk && r.writeSelectOk

end Sys2Proof
end

