-- ==== Sys2Proof/Decode.lean ====
section
/-! DEFINITION. The decoder, total on every request word and rejecting by name; the encoder; the opcode table as data; the
table's bit numbering; the assembler text and the pseudo-requests of R87. -/

namespace Sys2Proof

/-- Why a request word names nothing in the block (R85). -/
inductive Reject where
  /-- A STEP word with `addr` not 0. -/
  | stepAddrNotZero
  /-- A REG_READ or REG_WRITE word whose select is 6 or at least 0xC. -/
  | noSuchRegister
  deriving DecidableEq, Repr

/-- The register a REG_READ select names (R82). -/
def readInstr (sel : Nat) : Except Reject Instr :=
  match sel with
  | 0x0 => .ok .rdLcdc
  | 0x1 => .ok .rdStat
  | 0x2 => .ok .rdScy
  | 0x3 => .ok .rdScx
  | 0x4 => .ok .rdLy
  | 0x5 => .ok .rdLyc
  | 0x7 => .ok .rdBgp
  | 0x8 => .ok .rdObp0
  | 0x9 => .ok .rdObp1
  | 0xA => .ok .rdWy
  | 0xB => .ok .rdWx
  | _ => .error .noSuchRegister

/-- The register a REG_WRITE select names, with the data byte (R82). -/
def writeInstr (sel : Nat) (d : Byte) : Except Reject Instr :=
  match sel with
  | 0x0 => .ok (.wrLcdc d)
  | 0x1 => .ok (.wrStat d)
  | 0x2 => .ok (.wrScy d)
  | 0x3 => .ok (.wrScx d)
  | 0x4 => .ok (.wrLy d)
  | 0x5 => .ok (.wrLyc d)
  | 0x7 => .ok (.wrBgp d)
  | 0x8 => .ok (.wrObp0 d)
  | 0x9 => .ok (.wrObp1 d)
  | 0xA => .ok (.wrWy d)
  | 0xB => .ok (.wrWx d)
  | _ => .error .noSuchRegister

/-- The decoder: the kind comes from bits 18..16 alone (R80, R81); reserved words are rejected by name (R85); a VRAM or OAM
word is legal for every `addr`. -/
def decode (r : Request) : Except Reject Instr :=
  match r.kind.toNat with
  | 0 => if r.addr = 0 then .ok .step else .error .stepAddrNotZero
  | 1 => readInstr r.addr.toNat
  | 2 => writeInstr r.addr.toNat r.data
  | 3 => .ok (.vrd r.addr)
  | 4 => .ok (.vwr r.addr r.data)
  | 5 => .ok (.ord r.addr)
  | 6 => .ok (.owr r.addr r.data)
  | _ => .ok (.dma r.addr r.data)

/-- The `kind` field of a request (R80). -/
def kindField : Instr → BitVec 3
  | .step => 0
  | .rdLcdc | .rdStat | .rdScy | .rdScx | .rdLy | .rdLyc | .rdBgp | .rdObp0 | .rdObp1 | .rdWy | .rdWx => 1
  | .wrLcdc _ | .wrStat _ | .wrScy _ | .wrScx _ | .wrLy _ | .wrLyc _ | .wrBgp _ | .wrObp0 _ | .wrObp1 _ | .wrWy _ | .wrWx _ => 2
  | .vrd _ => 3
  | .vwr _ _ => 4
  | .ord _ => 5
  | .owr _ _ => 6
  | .dma _ _ => 7

/-- The `addr` field: 0 for STEP, the select of R82 for a register, the offset for a memory port (R81). -/
def addrField : Instr → Offset
  | .step => 0
  | .rdLcdc | .wrLcdc _ => 0x0
  | .rdStat | .wrStat _ => 0x1
  | .rdScy | .wrScy _ => 0x2
  | .rdScx | .wrScx _ => 0x3
  | .rdLy | .wrLy _ => 0x4
  | .rdLyc | .wrLyc _ => 0x5
  | .rdBgp | .wrBgp _ => 0x7
  | .rdObp0 | .wrObp0 _ => 0x8
  | .rdObp1 | .wrObp1 _ => 0x9
  | .rdWy | .wrWy _ => 0xA
  | .rdWx | .wrWx _ => 0xB
  | .vrd a | .vwr a _ | .ord a | .owr a _ | .dma a _ => a

/-- The data byte; 0 for a request that carries none (R80, entry 2). -/
def dataField : Instr → Byte
  | .step => 0
  | .rdLcdc | .rdStat | .rdScy | .rdScx | .rdLy | .rdLyc | .rdBgp | .rdObp0 | .rdObp1 | .rdWy | .rdWx => 0
  | .wrLcdc d | .wrStat d | .wrScy d | .wrScx d | .wrLy d | .wrLyc d | .wrBgp d | .wrObp0 d | .wrObp1 d | .wrWy d | .wrWx d => d
  | .vrd _ | .ord _ => 0
  | .vwr _ d | .owr _ d | .dma _ d => d

/-- The encoder: `w[18:16]` is the kind, `w[15:0]` the address or select (R80, R81). -/
def encode (i : Instr) : Request := { word := kindField i ++ addrField i, data := dataField i }

/-- One row of the opcode table: a word belongs to the row when its masked bits are the row's. -/
structure Row where
  mnemonic : String
  mask : BitVec 19
  bits : BitVec 19
  deriving DecidableEq, Repr

/-- The word belongs to the row. -/
def Row.covers (row : Row) (w : BitVec 19) : Bool := w &&& row.mask == row.bits

/-- The rows of spec/opcode_table.json with a register select, and STEP's. -/
def registerRows : List Row :=
  [⟨"STEP", 0x7FFFF, 0x00000⟩,
   ⟨"RD_LCDC", 0x7FFFF, 0x10000⟩,
   ⟨"RD_STAT", 0x7FFFF, 0x10001⟩,
   ⟨"RD_SCY", 0x7FFFF, 0x10002⟩,
   ⟨"RD_SCX", 0x7FFFF, 0x10003⟩,
   ⟨"RD_LY", 0x7FFFF, 0x10004⟩,
   ⟨"RD_LYC", 0x7FFFF, 0x10005⟩,
   ⟨"RD_BGP", 0x7FFFF, 0x10007⟩,
   ⟨"RD_OBP0", 0x7FFFF, 0x10008⟩,
   ⟨"RD_OBP1", 0x7FFFF, 0x10009⟩,
   ⟨"RD_WY", 0x7FFFF, 0x1000A⟩,
   ⟨"RD_WX", 0x7FFFF, 0x1000B⟩,
   ⟨"WR_LCDC", 0x7FFFF, 0x20000⟩,
   ⟨"WR_STAT", 0x7FFFF, 0x20001⟩,
   ⟨"WR_SCY", 0x7FFFF, 0x20002⟩,
   ⟨"WR_SCX", 0x7FFFF, 0x20003⟩,
   ⟨"WR_LY", 0x7FFFF, 0x20004⟩,
   ⟨"WR_LYC", 0x7FFFF, 0x20005⟩,
   ⟨"WR_BGP", 0x7FFFF, 0x20007⟩,
   ⟨"WR_OBP0", 0x7FFFF, 0x20008⟩,
   ⟨"WR_OBP1", 0x7FFFF, 0x20009⟩,
   ⟨"WR_WY", 0x7FFFF, 0x2000A⟩,
   ⟨"WR_WX", 0x7FFFF, 0x2000B⟩]

/-- The rows of spec/opcode_table.json of the memory ports. -/
def portRows : List Row :=
  [⟨"VRD", 0x70000, 0x30000⟩,
   ⟨"VWR", 0x70000, 0x40000⟩,
   ⟨"ORD", 0x70000, 0x50000⟩,
   ⟨"OWR", 0x70000, 0x60000⟩,
   ⟨"DMA", 0x70000, 0x70000⟩]

/-- The opcode table, 28 rows. -/
def opcodeTable : List Row := registerRows ++ portRows

/-- The table's name for a request. -/
def mnemonic : Instr → String
  | .step => "STEP"
  | .rdLcdc => "RD_LCDC"
  | .rdStat => "RD_STAT"
  | .rdScy => "RD_SCY"
  | .rdScx => "RD_SCX"
  | .rdLy => "RD_LY"
  | .rdLyc => "RD_LYC"
  | .rdBgp => "RD_BGP"
  | .rdObp0 => "RD_OBP0"
  | .rdObp1 => "RD_OBP1"
  | .rdWy => "RD_WY"
  | .rdWx => "RD_WX"
  | .wrLcdc _ => "WR_LCDC"
  | .wrStat _ => "WR_STAT"
  | .wrScy _ => "WR_SCY"
  | .wrScx _ => "WR_SCX"
  | .wrLy _ => "WR_LY"
  | .wrLyc _ => "WR_LYC"
  | .wrBgp _ => "WR_BGP"
  | .wrObp0 _ => "WR_OBP0"
  | .wrObp1 _ => "WR_OBP1"
  | .wrWy _ => "WR_WY"
  | .wrWx _ => "WR_WX"
  | .vrd _ => "VRD"
  | .vwr _ _ => "VWR"
  | .ord _ => "ORD"
  | .owr _ _ => "OWR"
  | .dma _ _ => "DMA"

/-- The request in bits numbered as the opcode table numbers them: the word in bits 18..0 of three bytes, whose other five
bits it has no room for, and the data byte in the fourth (DESIGN CHOICE, entry 3). Bits from `nbits` on are 0. -/
def requestOfBits (nbits w : Nat) : Request :=
  let bits := w % 2 ^ nbits
  { word := BitVec.ofNat 19 bits, data := BitVec.ofNat 8 (bits / 2 ^ 24) }

/-- The instruction the decoder reads from a table word. -/
def decodeTableWord (nbits w : Nat) : Option Instr :=
  match decode (requestOfBits nbits w) with
  | .ok i => some i
  | .error _ => none

/-- The request in the assembler syntax of R87, numbers in decimal. -/
def assemblyText : Instr → String
  | .step => "STEP"
  | .rdLcdc => "RD LCDC"
  | .rdStat => "RD STAT"
  | .rdScy => "RD SCY"
  | .rdScx => "RD SCX"
  | .rdLy => "RD LY"
  | .rdLyc => "RD LYC"
  | .rdBgp => "RD BGP"
  | .rdObp0 => "RD OBP0"
  | .rdObp1 => "RD OBP1"
  | .rdWy => "RD WY"
  | .rdWx => "RD WX"
  | .wrLcdc d => "WR LCDC, " ++ toString d.toNat
  | .wrStat d => "WR STAT, " ++ toString d.toNat
  | .wrScy d => "WR SCY, " ++ toString d.toNat
  | .wrScx d => "WR SCX, " ++ toString d.toNat
  | .wrLy d => "WR LY, " ++ toString d.toNat
  | .wrLyc d => "WR LYC, " ++ toString d.toNat
  | .wrBgp d => "WR BGP, " ++ toString d.toNat
  | .wrObp0 d => "WR OBP0, " ++ toString d.toNat
  | .wrObp1 d => "WR OBP1, " ++ toString d.toNat
  | .wrWy d => "WR WY, " ++ toString d.toNat
  | .wrWx d => "WR WX, " ++ toString d.toNat
  | .vrd a => "VRD " ++ toString a.toNat
  | .vwr a d => "VWR " ++ toString a.toNat ++ ", " ++ toString d.toNat
  | .ord a => "ORD " ++ toString a.toNat
  | .owr a d => "OWR " ++ toString a.toNat ++ ", " ++ toString d.toNat
  | .dma a d => "DMA " ++ toString a.toNat ++ ", " ++ toString d.toNat

/-- The pseudo-requests of R87. A host call that advances `DOTS_PER_CALL` dots is `steps DOTS_PER_CALL` (R8, R288,
entry 14). -/
inductive Pseudo where
  /-- `STEP <n>`. -/
  | steps (n : Nat)
  /-- `LINE`, one line of 456 dots. -/
  | line
  /-- `FRAME`, one frame of 70224 dots. -/
  | frame
  /-- `VFILL <offset>, <n>, <byte>`. -/
  | vfill (a : Offset) (n : Nat) (d : Byte)
  /-- `OFILL <offset>, <n>, <byte>`. -/
  | ofill (a : Offset) (n : Nat) (d : Byte)
  /-- `DMAFILL <offset>, <n>, <byte>`. -/
  | dmafill (a : Offset) (n : Nat) (d : Byte)
  deriving DecidableEq, Repr

/-- The `n` offsets from `a` on. R87 does not say what follows offset 0xFFFF; the model goes on at 0x0000, as a 16-bit `addr`
field does (DESIGN CHOICE, entry 17). -/
def offsetsFrom (a : Offset) (n : Nat) : List Offset := (List.range n).map (fun k => a + BitVec.ofNat 16 k)

/-- What a pseudo-request expands to (R87). -/
def expandPseudo : Pseudo → List Instr
  | .steps n => List.replicate n .step
  | .line => List.replicate 456 .step
  | .frame => List.replicate 70224 .step
  | .vfill a n d => (offsetsFrom a n).map (fun o => .vwr o d)
  | .ofill a n d => (offsetsFrom a n).map (fun o => .owr o d)
  | .dmafill a n d => (offsetsFrom a n).map (fun o => .dma o d)

end Sys2Proof
end

