-- ==== Sys2Proof/Config.lean ====
section
/-! DEFINITION. The implementation parameters of R7 and R8 that the rules leave to a named value. -/

namespace Sys2Proof.Config

/-- `VRAM_FILL`, what a gated VRAM read returns (R8, R67). -/
def vramFill : Byte := 0xFF

/-- `OAM_FILL`, what a gated OAM read returns (R8, R68). -/
def oamFill : Byte := 0xFF

/-- `SPRITE_FETCH_DOTS`, the length of a sprite fetch (R8). The fetcher's three two-dot phases make it (R222); no
definition reads it. -/
def spriteFetchDots : Nat := 6

/-- `RESET_OBP0`, open in R8 and R45. DESIGN CHOICE, unsafe: entry 8. -/
def resetObp0 : Byte := 0x00

/-- `RESET_OBP1`, open in R8 and R45. DESIGN CHOICE, unsafe: entry 8. -/
def resetObp1 : Byte := 0x00

/-- What a cell that nothing has written reads as: `INIT_VRAM`, `INIT_OAM` and `INIT_FB`, open in R8 and R45. DESIGN
CHOICE, unsafe: entries 6 and 7. -/
def unlisted (w : Nat) : BitVec w := 0

/-- `VRAM_SIZE` in bytes (R7, R42). -/
def vramSize : Nat := 8192

/-- The bytes of the attribute table (R7, R42). -/
def oamSize : Nat := 160

/-- The pixels of the frame buffer, 144 rows of 160 (R7, R43). -/
def fbSize : Nat := 23040

end Sys2Proof.Config
end

