-- ==== Sys2Proof/Machine/State.lean ====
section
/-! DEFINITION. Everything the spec gives the machine (R20 to R46), as plain data; the reasons a step can stop; the state
after power-on (R45). -/

namespace Sys2Proof.Machine

/-- The four modes of the sequencer (R31). -/
inductive Mode where
  | hblank
  | vblank
  | oamSearch
  | pixelTransfer
  deriving DecidableEq, Repr

/-- `fphase`, the background fetcher's phase (R36): fetch-tile-index, fetch-low-plane, fetch-high-plane, push-to-FIFO. -/
inductive FetchPhase where
  | ti
  | lo
  | hi
  | push
  deriving DecidableEq, Repr

/-- `sphase`, the sprite fetcher's phase (R40): S_ADDR, S_LO, S_HI. -/
inductive SpritePhase where
  | addr
  | lo
  | hi
  deriving DecidableEq, Repr

/-- An entry of the scanline sprite queue (R35). `oamIndex` is the entry's place in the attribute table, 0..39. -/
structure Sprite where
  x : Byte
  y : Byte
  tile : Byte
  attr : Byte
  oamIndex : Nat
  deriving DecidableEq, Repr

/-- A sprite shift register pair (R41). `count` is how many pixels it still shows, 0..8. -/
structure Slot where
  lo : Byte
  hi : Byte
  count : Nat
  attr : Byte
  deriving DecidableEq, Repr

/-- A store of `w`-bit cells: the cells that differ from `Config.unlisted`, by rising key. At `w = 8` it is a list of
`Host.Cell`. -/
abbrev Memory (w : Nat) := List (Nat × BitVec w)

/-- The canonical form of a store of `size` cells: keys strictly rising and in range, no cell that equals what an unlisted
key reads as. Equal stores are then equal lists. -/
abbrev Memory.wf {w : Nat} (size : Nat) (m : Memory w) : Prop :=
  m.Pairwise (fun c e => c.1 < e.1) ∧ ∀ c ∈ m, c.1 < size ∧ c.2 ≠ Config.unlisted w

/-- What the latest request emitted: the byte a read returns (R80), the set of interrupt requests as one bit a member
(R260, R264), the presented copy of the frame buffer (R162). -/
structure Output where
  data : Option Byte := none
  vblank : Bool := false
  stat : Bool := false
  present : Option (Memory 2) := none
  deriving DecidableEq, Repr

/-- A request that emits nothing. -/
def Output.silent : Output := {}

/-- The machine. -/
structure State where
  /-- LCDC, the control register (R22). -/
  lcdc : Byte
  /-- `stat_en`, the stored bits 6..3 of STAT (R23): bit 3 is LYC_INT, 2 MODE2_INT, 1 MODE1_INT, 0 MODE0_INT. -/
  statEn : BitVec 4
  /-- SCY (R24). -/
  scy : Byte
  /-- SCX (R24). -/
  scx : Byte
  /-- LY, the current line (R25). -/
  ly : Byte
  /-- LYC, the compare register (R26). -/
  lyc : Byte
  /-- BGP (R27). -/
  bgp : Byte
  /-- OBP0 (R28). -/
  obp0 : Byte
  /-- OBP1 (R28). -/
  obp1 : Byte
  /-- WY (R29). -/
  wy : Byte
  /-- WX (R29). -/
  wx : Byte
  /-- The sequencer's mode (R30, R31). -/
  mode : Mode
  /-- The dots already elapsed in the line (R30). -/
  dot : Nat
  /-- The stored coincidence flag (R30). -/
  coin : Bool
  /-- WLC, the window line counter (R34). -/
  wlc : Byte
  /-- `win_drawn`: the window was started on this line (R34). -/
  winDrawn : Bool
  /-- `win_line`: the window may start on this line (R34). -/
  winLine : Bool
  /-- `win_mode`: the fetcher is fetching window tiles (R34). -/
  winMode : Bool
  /-- The scanline sprite queue (R35). -/
  queue : List Sprite
  /-- The index of the earliest unconsumed entry (R35). -/
  head : Nat
  /-- `fphase` (R36). -/
  fphase : FetchPhase
  /-- `fsub`: the phase has done its first dot (R36). -/
  fsub : Bool
  /-- `saved_phase`, saved at a sprite trigger (R36, R221). -/
  savedPhase : FetchPhase
  /-- `bg_tile`, background tiles pushed this line (R36). -/
  bgTile : Byte
  /-- `win_tile`, window tiles pushed this line (R36). -/
  winTile : Byte
  /-- `tile_latch` (R36). -/
  tileLatch : Byte
  /-- `lo_latch` (R36). -/
  loLatch : Byte
  /-- `hi_latch` (R36). -/
  hiLatch : Byte
  /-- `bg_lo`, the low plane of the background pair (R37). -/
  bgLo : Byte
  /-- `bg_hi`, its high plane (R37). -/
  bgHi : Byte
  /-- `bg_count`, the pixels the pair still holds, 0..8 (R37). -/
  bgCount : Nat
  /-- `discard`, the pixels still to be dropped, 0..7 (R38). -/
  discard : Nat
  /-- `cursor`, the column of the next pixel, 0..160 (R39). -/
  cursor : Nat
  /-- `sactive`: a sprite fetch is in progress (R40). -/
  sactive : Bool
  /-- `sphase` (R40). -/
  sphase : SpritePhase
  /-- `ssub`: the sprite phase has done its first dot (R40). -/
  ssub : Bool
  /-- `saddr`, the VRAM offset of the sprite's tile row (R40). -/
  saddr : BitVec 13
  /-- `s_lo` (R40). -/
  sLo : Byte
  /-- `s_hi` (R40). -/
  sHi : Byte
  /-- `slot[0..9]`, one pair per queue entry (R41). -/
  slots : List Slot
  /-- The tile/map storage, 8192 bytes (R42). -/
  vram : Memory 8
  /-- The attribute table, 160 bytes (R42). -/
  oam : Memory 8
  /-- The frame buffer: pixel (row, col) is cell 160 * row + col (R43). -/
  fb : Memory 2
  /-- The `refused` mark (R46, R85). -/
  refused : Bool
  /-- The `faulted` mark (R46, R158). -/
  faulted : Bool
  /-- The model's own field: requests issued and not yet taken, oldest first (R73, entry 1). -/
  requests : List Request
  /-- What the latest request emitted (entry 10). -/
  out : Output
  deriving DecidableEq, Repr

/-- Why the machine stops. -/
inductive Fault where
  /-- Raised by `step`, and by nothing else, when the `faulted` mark is already set: a state the rules prove unreachable is
  never final (R46, R158). Safe: nothing can be concluded about what follows (entry 5). -/
  | markedUnreachable
  deriving DecidableEq, Repr

/-- Why an instruction has no meaning. -/
inductive Refusal where
  /-- Raised by an arm of `exec` whose instruction has no meaning yet; no arm is left so. Safe. -/
  | notModelled (mnemonic : String)
  deriving DecidableEq, Repr

/-- A slot that shows nothing (R231). -/
def Slot.empty : Slot := { lo := 0, hi := 0, count := 0, attr := 0 }

/-- The ten empty slots (R41, R231). -/
def emptySlots : List Slot := List.replicate 10 Slot.empty

/-- Power-on, the only reset (R45, R280). The values R45 leaves open or unspecified are named in entries 6 to 9. -/
def State.reset : State where
  lcdc := 0x91
  statEn := 0
  scy := 0x00
  scx := 0x00
  ly := 0
  lyc := 0x00
  bgp := 0xE4
  obp0 := Config.resetObp0
  obp1 := Config.resetObp1
  wy := 0x00
  wx := 0x00
  mode := .vblank
  dot := 0
  coin := true
  wlc := 0
  winDrawn := false
  winLine := false
  winMode := false
  queue := []
  head := 0
  fphase := .ti
  fsub := false
  savedPhase := .ti
  bgTile := 0
  winTile := 0
  tileLatch := 0
  loLatch := 0
  hiLatch := 0
  bgLo := 0
  bgHi := 0
  bgCount := 0
  discard := 0
  cursor := 0
  sactive := false
  sphase := .addr
  ssub := false
  saddr := 0
  sLo := 0
  sHi := 0
  slots := emptySlots
  vram := []
  oam := []
  fb := []
  refused := false
  faulted := false
  requests := []
  out := Output.silent

end Sys2Proof.Machine
end

