-- ==== Sys2Proof/Machine/Ops.lean ====
section
/-! DEFINITION. The shared operations: reading and writing a store, the block's own memory accesses (R10), emitting the
outputs of a request (R260, R162), the two marks (R46), taking a request from the scheduler's list. The block takes no
exception and returns from none (R261, R266): what stands here in their place is emitting an interrupt request. -/

namespace Sys2Proof.Machine

/-- One cell of a store: the listed value, or what an unlisted cell reads as. -/
def Memory.read {w : Nat} : Memory w → Nat → BitVec w
  | [], _ => Config.unlisted w
  | (k, v) :: rest, a => if k = a then v else Memory.read rest a

/-- Writes one cell, keeping the canonical form. -/
def Memory.write {w : Nat} : Memory w → Nat → BitVec w → Memory w
  | [], a, v => if v = Config.unlisted w then [] else [(a, v)]
  | (k, u) :: rest, a, v =>
    if k < a then (k, u) :: Memory.write rest a v
    else
      let tail := if k = a then rest else (k, u) :: rest
      if v = Config.unlisted w then tail else (a, v) :: tail

/-- `MemRead(VRAM, a, 1)`, the block's own ungated read (R10, R69); the offset is reduced `& 0x1FFF` (R66). -/
def vramByte (s : State) (a : Nat) : Byte := Memory.read s.vram (a % 8192)

/-- `MemRead(OAM, a, 1)`, the block's own ungated read (R10, R69). -/
def oamByte (s : State) (a : Nat) : Byte := Memory.read s.oam a

/-- `MemWrite(VRAM, a, 1, d)` (R10). -/
def storeVram (a : Nat) (d : Byte) (s : State) : State := { s with vram := Memory.write s.vram a d }

/-- `MemWrite(OAM, a, 1, d)` (R10). -/
def storeOam (a : Nat) (d : Byte) (s : State) : State := { s with oam := Memory.write s.oam a d }

/-- The cell of the frame buffer's pixel (row, col) (R43). -/
def pixelKey (row : Byte) (col : Nat) : Nat := 160 * row.toNat + col

/-- `FB[row][col] <- shade` (R10, R43). -/
def storePixel (row : Byte) (col : Nat) (shade : Shade) (s : State) : State :=
  { s with fb := Memory.write s.fb (pixelKey row col) shade }

/-- A request begins with nothing emitted (R260: the set is that of the current request or step). -/
def clearOut (s : State) : State := { s with out := Output.silent }

/-- A read returns one byte and emits nothing else (R71, R80). -/
def answer (d : Byte) (s : State) : State := { s with out := { Output.silent with data := some d } }

/-- `request(VBLANK)` (R10, R260). -/
def requestVblank (s : State) : State := { s with out := { s.out with vblank := true } }

/-- `if c: request(STAT)` (R10, R260). A member already in the set stays in it once (R264). -/
def requestStatIf (c : Bool) (s : State) : State := { s with out := { s.out with stat := s.out.stat || c } }

/-- `present(FB)`: a copy of the frame buffer as it stands (R10, R162). -/
def presentFrame (s : State) : State := { s with out := { s.out with present := some s.fb } }

/-- `refuse(reason)`: the mark, nothing emitted, no other state (R85). -/
def refuseRequest (s : State) : State := { s with refused := true, out := Output.silent }

/-- `fault(reason)`: the mark (R46, R158). -/
def markFaulted (s : State) : State := { s with faulted := true }

/-- No request is pending: nothing happens and nothing is emitted (R21, entry 11). -/
def idle (s : State) : State := clearOut s

/-- The scheduler's list without its oldest request. -/
def takeRequest (rest : List Request) (s : State) : State := { s with requests := rest }

/-- The scheduler's list with a request put before all the others. -/
def placeRequest (r : Request) (s : State) : State := { s with requests := r :: s.requests }

end Sys2Proof.Machine
end

