-- ==== Sys2Proof/Machine/Flags.lean ====
section
/-! DEFINITION. The packed bit fields of LCDC, STAT, the palettes and the attribute byte, and the coincidence flag. -/

namespace Sys2Proof.Machine

/-- `LCDC.LCD_ON`, bit 7 (R22). -/
def lcdOn (s : State) : Bool := s.lcdc.getLsbD 7

/-- `LCDC.WIN_MAP`, bit 6 (R22). -/
def winMap (s : State) : Bool := s.lcdc.getLsbD 6

/-- `LCDC.WIN_EN`, bit 5 (R22). -/
def winEn (s : State) : Bool := s.lcdc.getLsbD 5

/-- `LCDC.TILE_DATA`, bit 4: 1 is unsigned addressing (R22). -/
def tileData (s : State) : Bool := s.lcdc.getLsbD 4

/-- `LCDC.BG_MAP`, bit 3 (R22). -/
def bgMap (s : State) : Bool := s.lcdc.getLsbD 3

/-- `LCDC.OBJ_SIZE`, bit 2 (R22). -/
def objSize (s : State) : Bool := s.lcdc.getLsbD 2

/-- `LCDC.OBJ_EN`, bit 1 (R22). -/
def objEn (s : State) : Bool := s.lcdc.getLsbD 1

/-- `LCDC.BG_EN`, bit 0 (R22). -/
def bgEn (s : State) : Bool := s.lcdc.getLsbD 0

/-- The sprite height the current OBJ_SIZE gives (R22, R180). -/
def objHeight (s : State) : Nat := if objSize s then 16 else 8

/-- `STAT.LYC_INT`, bit 6, stored as bit 3 of `statEn` (R23). -/
def lycInt (s : State) : Bool := s.statEn.getLsbD 3

/-- `STAT.MODE2_INT`, bit 5 (R23). -/
def mode2Int (s : State) : Bool := s.statEn.getLsbD 2

/-- `STAT.MODE1_INT`, bit 4 (R23). -/
def mode1Int (s : State) : Bool := s.statEn.getLsbD 1

/-- `STAT.MODE0_INT`, bit 3 (R23). -/
def mode0Int (s : State) : Bool := s.statEn.getLsbD 0

/-- The mode as STAT's bits 1..0 encode it (R31). -/
def modeBits : Mode → BitVec 2
  | .hblank => 0
  | .vblank => 1
  | .oamSearch => 2
  | .pixelTransfer => 3

/-- STAT as read: bit 7 is 1, bits 6..3 the stored enables, bit 2 the flag, bits 1..0 the mode (R113). -/
def statByte (s : State) : Byte := 1#1 ++ s.statEn ++ BitVec.ofBool s.coin ++ modeBits s.mode

/-- The bits of a STAT write that are stored, 6..3 (R124). -/
def statEnables (d : Byte) : BitVec 4 := d.extractLsb' 3 4

/-- The shade a palette gives an index: `pal[2i+1:2i]` (R27, R28, R244). -/
def paletteShade (pal : Byte) (i : Shade) : Shade := pal.extractLsb' (2 * i.toNat) 2

/-- The 2-bit colour index of the top bits of a bit-plane pair (R92, R202). -/
def topIndex (hi lo : Byte) : Shade := BitVec.ofBool (hi.getLsbD 7) ++ BitVec.ofBool (lo.getLsbD 7)

/-- Attribute bit 7, `PRIO`: behind the background (R96). -/
def attrPrio (attr : Byte) : Bool := attr.getLsbD 7

/-- Attribute bit 6, `YFLIP` (R96). -/
def attrYflip (attr : Byte) : Bool := attr.getLsbD 6

/-- Attribute bit 5, `XFLIP` (R96). -/
def attrXflip (attr : Byte) : Bool := attr.getLsbD 5

/-- Attribute bit 4, `PAL`: 1 is OBP1 (R96). -/
def attrPal (attr : Byte) : Bool := attr.getLsbD 4

/-- `update_coincidence(allow_request)` (R161): the compare-match source fires on a rise of the flag only. -/
def updateCoincidence (allowRequest : Bool) (s : State) : State :=
  { requestStatIf ((s.ly == s.lyc) && !s.coin && allowRequest && lycInt s) s with coin := s.ly == s.lyc }

end Sys2Proof.Machine
end

