-- ==== Sys2Proof/Machine/Operands.lean ====
section
/-! DEFINITION. The addresses: how a request's offset is reduced (R64, R65), and the offsets the fetchers compute (R91,
R196, R197, R223, R224). -/

namespace Sys2Proof.Machine

/-- A VRAM offset of a request: `a & 0x1FFF` (R64, R83). -/
def vramOffset (a : Offset) : Nat := (a &&& 0x1FFF).toNat

/-- An OAM offset of a request: `a mod 160` (R65, R84). -/
def oamOffset (a : Offset) : Nat := a.toNat % 160

/-- `rev8`: bit `i` moved to bit `7 - i` (R9). -/
def rev8 (b : Byte) : Byte := b.reverse

/-- `tile_base(i)` for a background or window tile index (R91): unsigned from 0x0000, or signed about 0x1000. -/
def tileBase (s : State) (i : Byte) : Nat := if tileData s then 16 * i.toNat else (0x1000 + 16 * i.toInt).toNat

/-- The base of a tile map: the map-select bit's choice (R22, R90). -/
def mapBase (high : Bool) : Nat := if high then 0x1C00 else 0x1800

/-- The background row of the line, `(LY + SCY) & 0xFF` (R196). -/
def bgRow (s : State) : Nat := (s.ly + s.scy).toNat

/-- `map_addr()` (R196). -/
def mapAddr (s : State) : Nat :=
  if s.winMode then mapBase (winMap s) + 32 * ((s.wlc.toNat / 8) % 32) + s.winTile.toNat % 32
  else mapBase (bgMap s) + 32 * (bgRow s / 8) + (s.scx.toNat / 8 + s.bgTile.toNat) % 32

/-- `data_addr()`, the low bit-plane of the current tile row (R197). -/
def dataAddr (s : State) : Nat :=
  tileBase s s.tileLatch + 2 * (if s.winMode then s.wlc.toNat % 8 else bgRow s % 8)

/-- The line's row within the sprite, before the tile split: taken modulo the height, then flipped (R223). -/
def spriteLine (s : State) (e : Sprite) : Nat :=
  let row := (s.ly + 16 - e.y).toNat % objHeight s
  if attrYflip e.attr then objHeight s - 1 - row else row

/-- `sprite_row(e)`: the tile and the row in it (R223). A 16-row sprite takes its top half from `tile & 0xFE` and its
bottom half from `tile | 1` (R98). -/
def spriteRow (s : State) (e : Sprite) : Nat × Nat :=
  let row := spriteLine s e
  if objSize s then ((e.tile &&& 0xFE).toNat + row / 8, row % 8) else (e.tile.toNat, row)

/-- `sprite_row_addr(e) = 16 * tile + 2 * row`, always by unsigned tile addressing (R98, R224). -/
def spriteRowAddr (s : State) (e : Sprite) : Nat := 16 * (spriteRow s e).1 + 2 * (spriteRow s e).2

end Sys2Proof.Machine
end

