-- ==== Sys2Proof/Machine/OamScanner.lean ====
section
/-! DEFINITION. The OAM scanner (43_oam_scanner.md), called at OAM_SEARCH entry. -/

namespace Sys2Proof.Machine

/-- `visible(y, h)` on line `ly`: `y <= LY + 16 < y + h`, as integers (R181). -/
def spriteVisible (ly y : Byte) (h : Nat) : Bool := y.toNat ≤ ly.toNat + 16 && ly.toNat + 16 < y.toNat + h

/-- Entry `k` of the attribute table: bytes `y`, `x`, `tile`, `attr` at `4k`..`4k+3` (R95, R180). -/
def oamEntry (s : State) (k : Nat) : Sprite where
  y := oamByte s (4 * k)
  x := oamByte s (4 * k + 1)
  tile := oamByte s (4 * k + 2)
  attr := oamByte s (4 * k + 3)
  oamIndex := k

/-- The first ten visible entries in table order (R180, R182). -/
def scanLine (s : State) : List Sprite :=
  (((List.range 40).map (oamEntry s)).filter (fun e => spriteVisible s.ly e.y (objHeight s))).take 10

/-- Puts an entry before the first one whose `x` is not smaller than its own. -/
def insertByX (e : Sprite) : List Sprite → List Sprite
  | [] => [e]
  | f :: rest => if e.x.toNat ≤ f.x.toNat then e :: f :: rest else f :: insertByX e rest

/-- The stable sort ascending by `x` (R183): an entry is put in after those that follow it, and before its equals. -/
def sortByX : List Sprite → List Sprite
  | [] => []
  | e :: rest => insertByX e (sortByX rest)

/-- `oam_scan()` (R180). -/
def oamScan (s : State) : State := { s with queue := sortByX (scanLine s), head := 0 }

end Sys2Proof.Machine
end

