-- ==== Sys2Proof/Machine/BgFetcher.lean ====
section
/-! DEFINITION. The background/window tile fetcher, the background shift register pair and the window compositor
(44_bg_window_fetcher.md). -/

namespace Sys2Proof.Machine

/-- `init_bg_fetcher()` (R199). The latches keep what they held. -/
def initBgFetcher (s : State) : State :=
  { s with
    fphase := .ti, fsub := false, savedPhase := .ti
    bgTile := 0, winTile := 0
    bgLo := 0, bgHi := 0, bgCount := 0 }

/-- `do_TI()` (R192). -/
def fetchTileIndex (s : State) : State := { s with tileLatch := vramByte s (mapAddr s), fphase := .lo, fsub := false }

/-- `do_LO()` (R193). -/
def fetchLowPlane (s : State) : State := { s with loLatch := vramByte s (dataAddr s), fphase := .hi, fsub := false }

/-- `do_HI()` (R194): the address is computed again at this dot. -/
def fetchHighPlane (s : State) : State := { s with hiLatch := vramByte s (dataAddr s + 1), fphase := .push, fsub := false }

/-- `do_PUSH()` (R195): the pair loads only when it is empty; otherwise the phase stays and tries again. -/
def pushTile (s : State) : State :=
  if s.bgCount = 0 then
    { s with
      bgLo := s.loLatch, bgHi := s.hiLatch, bgCount := 8
      winTile := if s.winMode then s.winTile + 1 else s.winTile
      bgTile := if s.winMode then s.bgTile else s.bgTile + 1
      fphase := .ti, fsub := false }
  else s

/-- `bg_fetch_dot()` (R191): the first dot of a phase only counts, the second acts. -/
def bgFetchDot (s : State) : State :=
  if s.fsub then
    match s.fphase with
    | .ti => fetchTileIndex s
    | .lo => fetchLowPlane s
    | .hi => fetchHighPlane s
    | .push => pushTile s
  else { s with fsub := true }

/-- `shift_bg()` (R202). -/
def shiftBg (s : State) : State := { s with bgLo := s.bgLo <<< 1, bgHi := s.bgHi <<< 1, bgCount := s.bgCount - 1 }

/-- The line may show the window: enabled, and the line has reached WY (R204). -/
def windowLine (s : State) : Bool := winEn s && decide (s.wy.toNat ≤ s.ly.toNat)

/-- The window starts at column 0 of the line (R204). -/
def windowAtLeft (s : State) : Bool := windowLine s && decide (s.wx.toNat ≤ 7)

/-- `init_window_and_discard()` (R204). -/
def initWindowAndDiscard (s : State) : State :=
  { s with
    winLine := windowLine s
    winMode := windowAtLeft s
    winDrawn := s.winDrawn || windowAtLeft s
    discard := if windowAtLeft s then 7 - s.wx.toNat else s.scx.toNat % 8 }

/-- The condition of `window_check()` (R205). -/
def windowStartsHere (s : State) : Bool :=
  s.winLine && !s.winMode && winEn s && decide (8 ≤ s.wx.toNat) && decide (s.cursor = s.wx.toNat - 7)

/-- `window_check()` (R205): a mid-line start drops the pair and the fetch in progress. -/
def windowCheck (s : State) : State :=
  if windowStartsHere s then
    { s with
      winMode := true, winDrawn := true
      bgLo := 0, bgHi := 0, bgCount := 0
      fphase := .ti, fsub := false
      winTile := 0 }
  else s

end Sys2Proof.Machine
end

