-- ==== Sys2Proof/Machine/SpriteFetcher.lean ====
section
/-! DEFINITION. The sprite fetcher and the sprite shift registers (45_sprite_fetcher.md). -/

namespace Sys2Proof.Machine

/-- `init_sprites()` (R231). The queue is not changed. -/
def initSprites (s : State) : State :=
  { s with head := 0, sactive := false, sphase := .addr, ssub := false, slots := emptySlots }

/-- The sprite's leftmost column, `x - 8`, as a signed integer (R97). -/
def spriteLeft (e : Sprite) : Int := (e.x.toNat : Int) - 8

/-- The earliest unconsumed entry is at or left of the cursor (R220). -/
def spriteReached (s : State) : Bool :=
  match s.queue[s.head]? with
  | some e => decide (spriteLeft e ≤ (s.cursor : Int))
  | none => false

/-- `sprite_check()` (R220): the trigger saves the background phase and leaves everything else (R221). -/
def spriteCheck (s : State) : State :=
  if objEn s && spriteReached s then
    { s with sactive := true, savedPhase := s.fphase, sphase := .addr, ssub := false }
  else s

/-- The columns of the sprite left of the cursor, at most 8 (R226, R227). -/
def preShift (cursor : Nat) (e : Sprite) : Nat := (min 8 ((cursor : Int) - spriteLeft e)).toNat

/-- A bit-plane as its slot holds it: flipped when the attribute asks, then pre-shifted (R226). -/
def slotPlane (attr plane : Byte) (shift : Nat) : Byte := (if attrXflip attr then rev8 plane else plane) <<< shift

/-- `finish(e)` (R226): the slot is filled, the entry consumed, the background phase restarted (R228). -/
def finishSprite (e : Sprite) (s : State) : State :=
  let shift := preShift s.cursor e
  { s with
    slots := s.slots.set s.head
      { lo := slotPlane e.attr s.sLo shift, hi := slotPlane e.attr s.sHi shift, count := 8 - shift, attr := e.attr }
    head := s.head + 1
    sactive := false
    fphase := s.savedPhase, fsub := false }

/-- The S_ADDR action (R222). -/
def spriteAddr (e : Sprite) (s : State) : State :=
  { s with saddr := BitVec.ofNat 13 (spriteRowAddr s e), sphase := .lo, ssub := false }

/-- The S_LO action (R222, R225). -/
def spriteLow (s : State) : State := { s with sLo := vramByte s s.saddr.toNat, sphase := .hi, ssub := false }

/-- The S_HI action (R222, R225, R226). -/
def spriteHigh (e : Sprite) (s : State) : State := finishSprite e { s with sHi := vramByte s (s.saddr.toNat + 1) }

/-- `sprite_fetch_dot()` (R222): the first dot of a phase only counts, the second acts. A fetch in progress with no entry at
`head` is a state the rules never reach; it gets the `faulted` mark (entry 5). -/
def spriteFetchDot (s : State) : State :=
  match s.queue[s.head]? with
  | none => markFaulted s
  | some e =>
    if s.ssub then
      match s.sphase with
      | .addr => spriteAddr e s
      | .lo => spriteLow s
      | .hi => spriteHigh e s
    else { s with ssub := true }

end Sys2Proof.Machine
end

