-- ==== Sys2Proof/Machine/PixelMixer.lean ====
section
/-! DEFINITION. The pixel mixer (46_pixel_mixer.md). -/

namespace Sys2Proof.Machine

/-- The background or window colour index of the pixel; 0 while BG_EN is 0 (R241). -/
def bgIndex (s : State) : Shade := if bgEn s then topIndex s.bgHi s.bgLo else 0

/-- A slot that can win the pixel: active, and its index is not transparent (R242). -/
def slotOpaque (k : Slot) : Bool := decide (0 < k.count) && (topIndex k.hi k.lo != 0)

/-- The candidate: the first slot in queue order that can win; none while OBJ_EN is 0 (R242). -/
def spriteCandidate (s : State) : Option Slot :=
  if objEn s then (s.slots.take s.queue.length).find? slotOpaque else none

/-- The candidate wins unless it asks to be behind a background whose index is not 0 (R243). -/
def spriteWins (k : Slot) (b : Shade) : Bool := !(attrPrio k.attr && b != 0)

/-- The palette of a winning sprite (R244). -/
def spritePalette (s : State) (k : Slot) : Byte := if attrPal k.attr then s.obp1 else s.obp0

/-- The shade of the pixel (R240, R243, R244): a losing candidate gives no later slot a second chance. -/
def mixShade (s : State) : Shade :=
  match spriteCandidate s with
  | some k =>
    if spriteWins k (bgIndex s) then paletteShade (spritePalette s k) (topIndex k.hi k.lo)
    else paletteShade s.bgp (bgIndex s)
  | none => paletteShade s.bgp (bgIndex s)

/-- `shift_slot(k)` of an active slot; a slot that shows nothing more stays (R240, R246). -/
def shiftSlot (k : Slot) : Slot :=
  if 0 < k.count then { k with lo := k.lo <<< 1, hi := k.hi <<< 1, count := k.count - 1 } else k

/-- Every active slot of a queue of `n` entries shifts once (R246). -/
def shiftSlots (n : Nat) (slots : List Slot) : List Slot := (slots.take n).map shiftSlot ++ slots.drop n

/-- A dot that writes a pixel (R240, R245): the shade at `FB[LY][cursor]`, both kinds of shift register shifted, the cursor
moved on. -/
def writePixel (s : State) : State :=
  { shiftBg (storePixel s.ly s.cursor (mixShade s) s) with
    slots := shiftSlots s.queue.length s.slots
    cursor := s.cursor + 1 }

/-- `mix_dot()` (R240): nothing on a stall, the pair alone on a discard (R247), otherwise a pixel. -/
def mixDot (s : State) : State :=
  if s.bgCount = 0 then s
  else if 0 < s.discard then { shiftBg s with discard := s.discard - 1 }
  else writePixel s

end Sys2Proof.Machine
end

