-- ==== Sys2Proof/Machine/Sequencer.lean ====
section
/-! DEFINITION. The mode sequencer and the display power (42_mode_sequencer.md), and the meaning of STEP. -/

namespace Sys2Proof.Machine

/-- `enter_oam()` (R159). -/
def enterOam (s : State) : State :=
  requestStatIf (mode2Int s) (oamScan { s with mode := .oamSearch, wlc := if s.ly = 0 then 0 else s.wlc })

/-- `enter_transfer()` (R153). -/
def enterTransfer (s : State) : State :=
  initSprites (initWindowAndDiscard (initBgFetcher { s with mode := .pixelTransfer, cursor := 0 }))

/-- `enter_hblank()` (R155). -/
def enterHblank (s : State) : State := requestStatIf (mode0Int s) { s with mode := .hblank }

/-- `enter_vblank()` (R160). -/
def enterVblank (s : State) : State :=
  presentFrame (requestStatIf (mode1Int s) (requestVblank { s with mode := .vblank }))

/-- The end of the line's window and LY counting: WLC counts the lines that showed the window (R157, R207). -/
def nextLine (s : State) : State :=
  { s with
    dot := 0
    wlc := if s.winDrawn then s.wlc + 1 else s.wlc
    winDrawn := false
    ly := if s.ly = 153 then 0 else s.ly + 1 }

/-- The mode the next line starts in (R157). -/
def startLine (s : State) : State :=
  match s.mode with
  | .hblank => if s.ly = 144 then enterVblank s else enterOam s
  | _ => if s.ly = 0 then enterOam s else s

/-- `end_of_line()` (R157). -/
def endOfLine (s : State) : State := startLine (updateCoincidence true (nextLine s))

/-- `transfer_dot()` (R154). -/
def transferDot (s : State) : State :=
  let t := if s.sactive then s else spriteCheck (windowCheck s)
  if t.sactive then spriteFetchDot t else mixDot (bgFetchDot t)

/-- One more dot of the line has elapsed (R150). -/
def countDot (s : State) : State := { s with dot := s.dot + 1 }

/-- A dot of OAM_SEARCH (R150, R152). -/
def oamDot (s : State) : State := if s.dot + 1 = 80 then enterTransfer (countDot s) else countDot s

/-- What follows a PIXEL_TRANSFER dot: HBLANK at the 160th pixel (R155); the mark if the line runs out first (R158). -/
def afterTransfer (s : State) : State :=
  if s.cursor = 160 then enterHblank s else if s.dot = 456 then markFaulted s else s

/-- A dot of HBLANK or VBLANK (R150, R156). -/
def blankDot (s : State) : State := if s.dot + 1 = 456 then endOfLine (countDot s) else countDot s

/-- `step()` of R150: nothing while the display is off (R151). -/
def stepDot (s : State) : State :=
  if lcdOn s then
    match s.mode with
    | .oamSearch => oamDot s
    | .pixelTransfer => afterTransfer (countDot (transferDot s))
    | .hblank => blankDot s
    | .vblank => blankDot s
  else s

/-- `display_on()` (R167). -/
def displayOn (s : State) : State := enterOam { s with dot := 0 }

/-- `display_off()` (R168). -/
def displayOff (s : State) : State :=
  updateCoincidence false
    { s with ly := 0, dot := 0, mode := .hblank, winDrawn := false, sactive := false, queue := [], head := 0 }

/-- STEP (R150): one dot, with the outputs of that dot. -/
def execStep (s : State) : Host.Outcome State Fault Refusal := .next (stepDot (clearOut s))

end Sys2Proof.Machine
end

