-- ==== Sys2Proof/Machine/Registers.lean ====
section
/-! DEFINITION. The register file requests (40_register_ops.md). -/

namespace Sys2Proof.Machine

/-- RD_LCDC (R112). -/
def execRdLcdc (s : State) : Host.Outcome State Fault Refusal := .next (answer s.lcdc s)

/-- RD_STAT (R113). -/
def execRdStat (s : State) : Host.Outcome State Fault Refusal := .next (answer (statByte s) s)

/-- RD_SCY (R114). -/
def execRdScy (s : State) : Host.Outcome State Fault Refusal := .next (answer s.scy s)

/-- RD_SCX (R115). -/
def execRdScx (s : State) : Host.Outcome State Fault Refusal := .next (answer s.scx s)

/-- RD_LY (R116). -/
def execRdLy (s : State) : Host.Outcome State Fault Refusal := .next (answer s.ly s)

/-- RD_LYC (R117). -/
def execRdLyc (s : State) : Host.Outcome State Fault Refusal := .next (answer s.lyc s)

/-- RD_BGP (R118). -/
def execRdBgp (s : State) : Host.Outcome State Fault Refusal := .next (answer s.bgp s)

/-- RD_OBP0 (R119). -/
def execRdObp0 (s : State) : Host.Outcome State Fault Refusal := .next (answer s.obp0 s)

/-- RD_OBP1 (R120). -/
def execRdObp1 (s : State) : Host.Outcome State Fault Refusal := .next (answer s.obp1 s)

/-- RD_WY (R121). -/
def execRdWy (s : State) : Host.Outcome State Fault Refusal := .next (answer s.wy s)

/-- RD_WX (R122). -/
def execRdWx (s : State) : Host.Outcome State Fault Refusal := .next (answer s.wx s)

/-- The display power change a write of LCDC makes: bit 7 falling turns the display off, rising turns it on (R123). -/
def switchDisplay (wasOn : Bool) (s : State) : State :=
  if wasOn && !lcdOn s then displayOff s else if !wasOn && lcdOn s then displayOn s else s

/-- WR_LCDC (R123): the byte is stored first, then the power change takes effect. -/
def execWrLcdc (d : Byte) (s : State) : Host.Outcome State Fault Refusal :=
  .next (switchDisplay (lcdOn s) { clearOut s with lcdc := d })

/-- WR_STAT (R124): bits 6..3 are stored, nothing is requested. -/
def execWrStat (d : Byte) (s : State) : Host.Outcome State Fault Refusal :=
  .next { clearOut s with statEn := statEnables d }

/-- WR_LY (R127): the write is accepted and the byte discarded. -/
def execWrLy (_d : Byte) (s : State) : Host.Outcome State Fault Refusal := .next (clearOut s)

/-- WR_LYC (R128). -/
def execWrLyc (d : Byte) (s : State) : Host.Outcome State Fault Refusal :=
  .next (updateCoincidence (lcdOn s) { clearOut s with lyc := d })

/-- WR_SCY (R125). -/
def execWrScy (d : Byte) (s : State) : Host.Outcome State Fault Refusal := .next { clearOut s with scy := d }

/-- WR_SCX (R126). -/
def execWrScx (d : Byte) (s : State) : Host.Outcome State Fault Refusal := .next { clearOut s with scx := d }

/-- WR_BGP (R129). -/
def execWrBgp (d : Byte) (s : State) : Host.Outcome State Fault Refusal := .next { clearOut s with bgp := d }

/-- WR_OBP0 (R130). -/
def execWrObp0 (d : Byte) (s : State) : Host.Outcome State Fault Refusal := .next { clearOut s with obp0 := d }

/-- WR_OBP1 (R131). -/
def execWrObp1 (d : Byte) (s : State) : Host.Outcome State Fault Refusal := .next { clearOut s with obp1 := d }

/-- WR_WY (R132). -/
def execWrWy (d : Byte) (s : State) : Host.Outcome State Fault Refusal := .next { clearOut s with wy := d }

/-- WR_WX (R133). -/
def execWrWx (d : Byte) (s : State) : Host.Outcome State Fault Refusal := .next { clearOut s with wx := d }

end Sys2Proof.Machine
end

