-- ==== Sys2Proof/Machine/VideoMemory.lean ====
section
/-! DEFINITION. The video memory requests: the VRAM and OAM ports and the DMA port (41_video_memory_ops.md). -/

namespace Sys2Proof.Machine

/-- The bus reaches VRAM in every mode but PIXEL_TRANSFER (R67). -/
def vramOpen (s : State) : Bool := s.mode != .pixelTransfer

/-- The bus reaches OAM in HBLANK and VBLANK only (R68). -/
def oamOpen (s : State) : Bool := s.mode != .oamSearch && s.mode != .pixelTransfer

/-- VRD (R140). -/
def execVrd (a : Offset) (s : State) : Host.Outcome State Fault Refusal :=
  .next (answer (if vramOpen s then vramByte s (vramOffset a) else Config.vramFill) s)

/-- VWR (R141): a gated write is dropped with no trace. -/
def execVwr (a : Offset) (d : Byte) (s : State) : Host.Outcome State Fault Refusal :=
  .next (if vramOpen s then storeVram (vramOffset a) d (clearOut s) else clearOut s)

/-- ORD (R142). -/
def execOrd (a : Offset) (s : State) : Host.Outcome State Fault Refusal :=
  .next (answer (if oamOpen s then oamByte s (oamOffset a) else Config.oamFill) s)

/-- OWR (R143): a gated write is dropped. -/
def execOwr (a : Offset) (d : Byte) (s : State) : Host.Outcome State Fault Refusal :=
  .next (if oamOpen s then storeOam (oamOffset a) d (clearOut s) else clearOut s)

/-- DMA (R144): the port is not gated. -/
def execDma (a : Offset) (d : Byte) (s : State) : Host.Outcome State Fault Refusal :=
  .next (storeOam (oamOffset a) d (clearOut s))

end Sys2Proof.Machine
end

