-- ==== Sys2Proof/Machine/Dispatch.lean ====
section
/-! DEFINITION. exec: one arm per constructor of Instr. -/

namespace Sys2Proof.Machine

def exec (i : Instr) (s : State) : Host.Outcome State Fault Refusal :=
  match i with
  | .step => Sys2Proof.Machine.execStep s
  | .rdLcdc => Sys2Proof.Machine.execRdLcdc s
  | .rdStat => Sys2Proof.Machine.execRdStat s
  | .rdScy => Sys2Proof.Machine.execRdScy s
  | .rdScx => Sys2Proof.Machine.execRdScx s
  | .rdLy => Sys2Proof.Machine.execRdLy s
  | .rdLyc => Sys2Proof.Machine.execRdLyc s
  | .rdBgp => Sys2Proof.Machine.execRdBgp s
  | .rdObp0 => Sys2Proof.Machine.execRdObp0 s
  | .rdObp1 => Sys2Proof.Machine.execRdObp1 s
  | .rdWy => Sys2Proof.Machine.execRdWy s
  | .rdWx => Sys2Proof.Machine.execRdWx s
  | .wrLcdc d => Sys2Proof.Machine.execWrLcdc d s
  | .wrStat d => Sys2Proof.Machine.execWrStat d s
  | .wrScy d => Sys2Proof.Machine.execWrScy d s
  | .wrScx d => Sys2Proof.Machine.execWrScx d s
  | .wrLy d => Sys2Proof.Machine.execWrLy d s
  | .wrLyc d => Sys2Proof.Machine.execWrLyc d s
  | .wrBgp d => Sys2Proof.Machine.execWrBgp d s
  | .wrObp0 d => Sys2Proof.Machine.execWrObp0 d s
  | .wrObp1 d => Sys2Proof.Machine.execWrObp1 d s
  | .wrWy d => Sys2Proof.Machine.execWrWy d s
  | .wrWx d => Sys2Proof.Machine.execWrWx d s
  | .vrd a => Sys2Proof.Machine.execVrd a s
  | .vwr a d => Sys2Proof.Machine.execVwr a d s
  | .ord a => Sys2Proof.Machine.execOrd a s
  | .owr a d => Sys2Proof.Machine.execOwr a d s
  | .dma a d => Sys2Proof.Machine.execDma a d s

end Sys2Proof.Machine
end

