-- ==== Sys2Proof/Machine/Step.lean ====
section
/-! DEFINITION. One step of the machine: it takes the oldest request and runs it (R72, R73). -/

namespace Sys2Proof.Machine

/-- The oldest request is taken and runs; a word that names nothing is refused (R85); with no request pending the block
idles (entry 11). A state with the `faulted` mark goes no further (R158, entry 5). -/
def step (s : State) : Host.Outcome State Fault Refusal :=
  if s.faulted then .fault .markedUnreachable
  else
    match s.requests with
    | [] => .next (idle s)
    | r :: rest =>
      match decode r with
      | .ok i => exec i (takeRequest rest s)
      | .error _ => .next (refuseRequest (takeRequest rest s))

/-- The state with the table word placed before every pending request, so that the next step takes it (entry 1). -/
def State.withFetchWord (s : State) (nbits w : Nat) : State := placeRequest (requestOfBits nbits w) s

end Sys2Proof.Machine
end

