-- ==== Sys2Proof/Safety.lean ====
section
/-! DEFINITION. What a safe run is, sequences of requests, the dots a PIXEL_TRANSFER still needs at most (R169), and the
invariant of the machine at every observation point (R32, R33, R35 to R41). -/

namespace Sys2Proof.Machine

/-- Neither mark is set: the model was driven inside its interface and no unreachable state was met (R46, R261). -/
def unmarked (s : State) : Bool := !s.refused && !s.faulted

/-- Requests one after another, as the scheduler orders them (R73). -/
def execAll : List Instr → State → Host.Outcome State Fault Refusal
  | [], s => .next s
  | i :: rest, s =>
    match exec i s with
    | .next t => execAll rest t
    | .fault r => .fault r
    | .refused r => .refused r

/-- `n` STEP requests in a row (R87). -/
def execSteps (n : Nat) (s : State) : Host.Outcome State Fault Refusal := execAll (List.replicate n .step) s

/-- The fetcher dots left up to and including the one at which PUSH first tries to load (R190, R191). -/
def fetchDotsLeft (s : State) : Nat :=
  (match s.fphase with
  | .ti => 8
  | .lo => 6
  | .hi => 4
  | .push => 2) - (if s.fsub then 1 else 0)

/-- The dots the mixer will stall for before the next load, when nothing interrupts the fetcher (R200, R201). -/
def stallDotsLeft (s : State) : Nat := fetchDotsLeft s - s.bgCount - 1

/-- The dots left of the sprite fetch in progress (R222). -/
def spriteFetchDotsLeft (s : State) : Nat :=
  (match s.sphase with
  | .addr => 6
  | .lo => 4
  | .hi => 2) - (if s.ssub then 1 else 0)

/-- The dots the sprites of the line can still cost: 6 and a restart dot for each (R228, R230). -/
def spriteDotsLeft (s : State) : Nat :=
  if s.sactive then spriteFetchDotsLeft s + 1 + 7 * (s.queue.length - s.head - 1) else 7 * (s.queue.length - s.head)

/-- The stall dots a window start can still cost, at most one start a line (R208). -/
def windowDotsLeft (s : State) : Nat := if s.winLine && !s.winMode then 7 else 0

/-- The PIXEL_TRANSFER dots the line can still take (R169). -/
def transferDotsLeft (s : State) : Nat :=
  (160 - s.cursor) + s.discard + stallDotsLeft s + spriteDotsLeft s + windowDotsLeft s

/-- A dot on which the sequencer is in PIXEL_TRANSFER with the display on (R150, R154). -/
abbrev transferring (s : State) : Prop := s.lcdc.getLsbD 7 = true ∧ s.mode = .pixelTransfer

/-- What R220 asks of a trigger: OBJ_EN, an unconsumed entry, and its left column at or left of the cursor. -/
abbrev spriteTriggers (s : State) : Prop :=
  s.lcdc.getLsbD 1 = true ∧ ∃ e ∈ s.queue[s.head]?, (e.x.toNat : Int) - 8 ≤ (s.cursor : Int)

/-- What R205 asks of a mid-line window start. -/
abbrev windowStarts (s : State) : Prop :=
  s.winLine = true ∧ s.winMode = false ∧ s.lcdc.getLsbD 5 = true ∧ 8 ≤ s.wx.toNat ∧ s.cursor = s.wx.toNat - 7

/-- A dot on which the background fetcher and the mixer run with nothing else happening: no sprite fetch in progress or
triggered, no window start (R154). -/
abbrev plainDot (s : State) : Prop :=
  transferring s ∧ s.sactive = false ∧ ¬ spriteTriggers s ∧ ¬ windowStarts s

/-- The fetcher loads the background pair on this dot (R191, R195). -/
abbrev loadsPair (s : State) : Prop := s.fsub = true ∧ s.fphase = .push ∧ s.bgCount = 0

/-- The pixels the pair holds after the fetcher's dot, before the mixer's (R195, R200: a load is consumed in the same
dot). -/
def pairCount (s : State) : Nat := if loadsPair s then 8 else s.bgCount

/-- The low plane of the pair after the fetcher's dot (R195). -/
def pairLo (s : State) : Byte := if loadsPair s then s.loLatch else s.bgLo

/-- The high plane of the pair after the fetcher's dot (R195). -/
def pairHi (s : State) : Byte := if loadsPair s then s.hiLatch else s.bgHi

/-- What a plain dot leaves: only the dot, the background fetcher and its pair, the mixer's discard, slots, frame buffer and
cursor may change, and with them what the 160th pixel, or a line that runs out before it, brings (R150, R154, R155, R158). -/
def plainDotFrame (s t : State) : Prop :=
  t = { s with
    dot := s.dot + 1
    fphase := t.fphase, fsub := t.fsub, bgTile := t.bgTile, winTile := t.winTile
    tileLatch := t.tileLatch, loLatch := t.loLatch, hiLatch := t.hiLatch, bgLo := t.bgLo, bgHi := t.bgHi, bgCount := t.bgCount
    discard := t.discard, cursor := t.cursor, slots := t.slots, fb := t.fb
    mode := if t.cursor = 160 then .hblank else .pixelTransfer
    faulted := s.faulted || (t.cursor != 160 && s.dot + 1 == 456)
    out := if t.cursor = 160 then { stat := s.statEn.getLsbD 0 } else {} }

/-- Slot `k` of the queue is the candidate of R242: the first active slot in queue order whose index, `2 * hi[7] + lo[7]`, is
not 0. -/
abbrev isCandidate (s : State) (k : Nat) (z : Slot) : Prop :=
  s.lcdc.getLsbD 1 = true ∧ k < s.queue.length ∧ s.slots[k]? = some z ∧ 0 < z.count ∧
    2 * (z.hi.getLsbD 7).toNat + (z.lo.getLsbD 7).toNat ≠ 0 ∧
    ∀ j < k, ∀ y ∈ s.slots[j]?, y.count = 0 ∨ 2 * (y.hi.getLsbD 7).toNat + (y.lo.getLsbD 7).toNat = 0

/-- The order of the sprite queue: ascending `x`, ties in ascending table index (R35, R183). -/
def spriteBefore (e f : Sprite) : Prop := e.x.toNat < f.x.toNat ∨ (e.x = f.x ∧ e.oamIndex < f.oamIndex)

/-- What holds between any two requests. -/
structure Inv (s : State) : Prop where
  /-- The unreachable states of R158 are not reached. -/
  unfaulted : s.faulted = false
  /-- R32. -/
  dot_lt : s.dot < 456
  /-- R25, R32. -/
  ly_le : s.ly.toNat ≤ 153
  /-- R32: the flag is `LY == LYC`. -/
  coin_eq : s.coin = (s.ly == s.lyc)
  /-- R32: the sequencer rests at line 0, dot 0, HBLANK while the display is off. -/
  off_rest : lcdOn s = false → s.ly = 0 ∧ s.dot = 0 ∧ s.mode = .hblank
  /-- R33: lines 144..153 are VBLANK. -/
  visible_line : s.mode ≠ .vblank → s.ly.toNat ≤ 143
  /-- R33: OAM_SEARCH is dots 0..79. -/
  oam_dots : s.mode = .oamSearch → s.dot < 80
  /-- R33, R169: PIXEL_TRANSFER starts at dot 80 and ends by dot 331. -/
  transfer_dots : s.mode = .pixelTransfer → 80 ≤ s.dot ∧ s.cursor < 160 ∧ s.dot + transferDotsLeft s ≤ 331
  /-- R35. -/
  queue_length : s.queue.length ≤ 10
  /-- R35, R183. -/
  queue_sorted : s.queue.Pairwise spriteBefore
  /-- R35. -/
  head_le : s.head ≤ s.queue.length
  /-- R37. -/
  bg_count_le : s.bgCount ≤ 8
  /-- R38. -/
  discard_le : s.discard ≤ 7
  /-- R39. -/
  cursor_le : s.cursor ≤ 160
  /-- R220, R221: a sprite fetch runs in PIXEL_TRANSFER only, for an entry of the queue, with the phase saved. -/
  sprite_fetch : s.sactive = true → s.mode = .pixelTransfer ∧ s.head < s.queue.length ∧ s.savedPhase = s.fphase
  /-- R41. -/
  slots_length : s.slots.length = 10
  /-- R41. -/
  slot_count_le : ∀ k ∈ s.slots, k.count ≤ 8
  /-- R42: VRAM is in canonical form, offsets 0..0x1FFF. -/
  vram_wf : Memory.wf Config.vramSize s.vram
  /-- R42: OAM is in canonical form, offsets 0..159. -/
  oam_wf : Memory.wf Config.oamSize s.oam
  /-- R43: the frame buffer is in canonical form, 144 rows of 160. -/
  fb_wf : Memory.wf Config.fbSize s.fb

end Sys2Proof.Machine
end

