-- ==== Sys2Proof/Certificates/Slice0/Obligations.lean ====
section
/-! DEFINITION. The statements for the provers. -/

open Sys2Proof Sys2Proof.Machine

/-! ## Encodings -/

/-- 30_encoding.md, R80 to R84: the decoder gives back every request the encoder writes, with every operand at every value
its field holds. -/
def Obligations.DecodeGivesBackEveryEncodedRequest : Prop :=
  ∀ i : Instr, decode (encode i) = .ok i

/-- 30_encoding.md, R80 to R84, and opcode_table.json: a word the decoder accepts lies in exactly one row of the table, and it
is the row of the instruction decoded. -/
def Obligations.DecodedWordLiesInItsTableRowAlone : Prop :=
  ∀ (r : Request) (i : Instr), decode r = .ok i →
    (opcodeTable.filter (fun row => row.covers r.word)).map Row.mnemonic = [mnemonic i]

/-- 30_encoding.md, R80 to R84, words written out from the rules: one for each request kind and a few selects. -/
def Obligations.WrittenOutWordsDecode : Prop :=
  decode ⟨0x00000, 0x00⟩ = .ok .step ∧
  decode ⟨0x10001, 0x00⟩ = .ok .rdStat ∧
  decode ⟨0x1000B, 0x00⟩ = .ok .rdWx ∧
  decode ⟨0x20005, 0x42⟩ = .ok (.wrLyc 0x42) ∧
  decode ⟨0x20007, 0xE4⟩ = .ok (.wrBgp 0xE4) ∧
  decode ⟨0x31805, 0x00⟩ = .ok (.vrd 0x1805) ∧
  decode ⟨0x42005, 0x11⟩ = .ok (.vwr 0x2005 0x11) ∧
  decode ⟨0x5009F, 0x00⟩ = .ok (.ord 0x009F) ∧
  decode ⟨0x6FFFF, 0x12⟩ = .ok (.owr 0xFFFF 0x12) ∧
  decode ⟨0x7009F, 0x00⟩ = .ok (.dma 0x009F 0x00)

/-- 30_encoding.md, R85: a STEP word whose `addr` is not 0, and a REG_READ or REG_WRITE word whose select is 6 or at least
0xC, is refused: the mark is set and nothing else of the block changes. Every other word, so every VRAM and OAM word whatever
its `addr`, decodes and runs. The model's choices in it: the request is taken from a list in State (entry 1), the refusal is a
next state from which the run goes on (entry 4), and a state already marked faulted is left out (entry 5). -/
def Obligations.ReservedWordsAreRefusedAndOthersRun : Prop :=
  ∀ (s : State) (r : Request) (rest : List Request), s.faulted = false → s.requests = r :: rest →
    let reserved : Prop :=
      (r.kind = 0 ∧ r.addr ≠ 0) ∨ ((r.kind = 1 ∨ r.kind = 2) ∧ (r.addr = 0x6 ∨ 0xC ≤ r.addr.toNat))
    (reserved → step s = .next { s with refused := true, requests := rest, out := {} }) ∧
    (¬ reserved → ∃ i, decode r = .ok i ∧ step s = exec i { s with requests := rest })

/-! ## The step -/

/-- 20_memory.md, R72 and R73: the step takes the oldest request and runs the instruction it decodes to, on the state without
that request. (The list of requests and the stop of a marked state are the model's choices, entries 1 and 5.) -/
def Obligations.StepRunsTheDecodedRequest : Prop :=
  ∀ (s : State) (r : Request) (rest : List Request) (i : Instr),
    s.faulted = false → s.requests = r :: rest → decode r = .ok i → step s = exec i { s with requests := rest }

/-- The table word placed for the next step runs next, on the state it was placed in (entry 1, the model's choice). -/
def Obligations.PlacedTableWordRunsNext : Prop :=
  ∀ (s : State) (nbits w : Nat) (i : Instr),
    s.faulted = false → decodeTableWord nbits w = some i → step (s.withFetchWord nbits w) = exec i s

/-! ## Reset and the invariant -/

/-- R45: the power-on value of every piece of state the table gives one, and STAT as it then reads. -/
def Obligations.PowerOnValues : Prop :=
  State.reset.lcdc = 0x91 ∧ State.reset.statEn = 0 ∧ State.reset.scy = 0x00 ∧ State.reset.scx = 0x00 ∧
  State.reset.ly = 0 ∧ State.reset.lyc = 0x00 ∧ State.reset.bgp = 0xE4 ∧ State.reset.wy = 0x00 ∧ State.reset.wx = 0x00 ∧
  State.reset.mode = .vblank ∧ State.reset.dot = 0 ∧ State.reset.coin = true ∧ State.reset.wlc = 0 ∧
  State.reset.winDrawn = false ∧ State.reset.winLine = false ∧ State.reset.winMode = false ∧
  State.reset.queue = [] ∧ State.reset.head = 0 ∧
  exec .rdStat State.reset = .next { State.reset with out := { data := some 0x85 } }

/-- 10_state.md, section 7: the power-on state meets the invariant of the machine. (The power-on contents of the memories, the
fetchers and the slots that it is checked on are the model's choices, entries 6, 7 and 9.) -/
def Obligations.PowerOnMeetsTheInvariant : Prop :=
  Inv State.reset

/-- 10_state.md, R32 to R43, and 42_mode_sequencer.md, R158 and R169: whatever request runs next, and so wherever in a line
software writes a register, the invariant is kept; no step reaches the states the rules prove unreachable. (That a reserved
word answers a next state, and an empty list of requests too, are the model's choices, entries 4 and 11.) -/
def Obligations.EveryStepKeepsTheInvariant : Prop :=
  ∀ s t : State, Inv s → step s = .next t → Inv t

/-- 60_exceptions.md, section 1: from a state that meets the invariant no request and no step stops the machine. That a
reserved word answers a next state (entry 4), and that the block idles when no request is pending (entry 11), are the model's
choices. -/
def Obligations.NoStepStopsTheMachine : Prop :=
  ∀ s : State, Inv s → ∃ t, step s = .next t

/-! ## Register reads -/

/-- R112, R114, R115, R117 to R122: the read returns the register, emits nothing else and changes no other state; and the
encoding of each. -/
def Obligations.RegisterReadsReturnTheRegister : Prop :=
  (∀ x : Byte,
    decode ⟨0x10000, x⟩ = .ok .rdLcdc ∧ decode ⟨0x10002, x⟩ = .ok .rdScy ∧ decode ⟨0x10003, x⟩ = .ok .rdScx ∧
    decode ⟨0x10005, x⟩ = .ok .rdLyc ∧ decode ⟨0x10007, x⟩ = .ok .rdBgp ∧ decode ⟨0x10008, x⟩ = .ok .rdObp0 ∧
    decode ⟨0x10009, x⟩ = .ok .rdObp1 ∧ decode ⟨0x1000A, x⟩ = .ok .rdWy ∧ decode ⟨0x1000B, x⟩ = .ok .rdWx) ∧
  ∀ s : State,
    exec .rdLcdc s = .next { s with out := { data := some s.lcdc } } ∧
    exec .rdScy s = .next { s with out := { data := some s.scy } } ∧
    exec .rdScx s = .next { s with out := { data := some s.scx } } ∧
    exec .rdLyc s = .next { s with out := { data := some s.lyc } } ∧
    exec .rdBgp s = .next { s with out := { data := some s.bgp } } ∧
    exec .rdObp0 s = .next { s with out := { data := some s.obp0 } } ∧
    exec .rdObp1 s = .next { s with out := { data := some s.obp1 } } ∧
    exec .rdWy s = .next { s with out := { data := some s.wy } } ∧
    exec .rdWx s = .next { s with out := { data := some s.wx } }

/-- R113: bit 7 reads 1, bits 6..3 the stored enables, bit 2 the flag, bits 1..0 the mode; in a state that meets the invariant
bit 2 is `LY == LYC` and the mode reads 0 while the display is off. -/
def Obligations.StatReadComposesItsByte : Prop :=
  (∀ x : Byte, decode ⟨0x10001, x⟩ = .ok .rdStat) ∧
  ∀ s : State, ∃ b : Byte,
    exec .rdStat s = .next { s with out := { data := some b } } ∧
    b.getLsbD 7 = true ∧ (∀ k < 4, b.getLsbD (3 + k) = s.statEn.getLsbD k) ∧ b.getLsbD 2 = s.coin ∧
    b.extractLsb' 0 2 = (match s.mode with | .hblank => 0 | .vblank => 1 | .oamSearch => 2 | .pixelTransfer => 3) ∧
    (Inv s → b.getLsbD 2 = (s.ly == s.lyc) ∧ (s.lcdc.getLsbD 7 = false → b.extractLsb' 0 2 = 0))

/-- R116: the read returns LY; it reads 0 while the display is off, 0..153 otherwise, and 144 from the step that enters
VBLANK. -/
def Obligations.LyReadReturnsTheLine : Prop :=
  (∀ x : Byte, decode ⟨0x10004, x⟩ = .ok .rdLy) ∧
  ∀ s : State,
    exec .rdLy s = .next { s with out := { data := some s.ly } } ∧
    (Inv s → s.ly.toNat ≤ 153 ∧ (s.lcdc.getLsbD 7 = false → s.ly = 0)) ∧
    (∀ t, exec .step s = .next t → s.mode ≠ .vblank → t.mode = .vblank → t.ly = 144)

/-! ## Register writes -/

/-- 40_register_ops.md, section 3: a plain register takes the byte; nothing is emitted and nothing else changes. -/
def Obligations.PlainRegisterWritesStoreTheByte : Prop :=
  ∀ (s : State) (d : Byte),
    exec (.wrScy d) s = .next { s with scy := d, out := {} } ∧
    exec (.wrScx d) s = .next { s with scx := d, out := {} } ∧
    exec (.wrBgp d) s = .next { s with bgp := d, out := {} } ∧
    exec (.wrObp0 d) s = .next { s with obp0 := d, out := {} } ∧
    exec (.wrObp1 d) s = .next { s with obp1 := d, out := {} } ∧
    exec (.wrWy d) s = .next { s with wy := d, out := {} } ∧
    exec (.wrWx d) s = .next { s with wx := d, out := {} }

/-- R124: bits 6..3 of the byte are stored, its other bits are ignored, nothing is requested, whatever conditions hold. -/
def Obligations.StatWriteStoresTheEnables : Prop :=
  ∀ (s : State) (d : Byte), decode ⟨0x20001, d⟩ = .ok (.wrStat d) ∧ ∃ en : BitVec 4,
    exec (.wrStat d) s = .next { s with statEn := en, out := {} } ∧ (∀ k < 4, en.getLsbD k = d.getLsbD (3 + k)) ∧
    exec (.wrStat d) s = exec (.wrStat (d &&& 0x78)) s

/-- R127: the write is accepted, and nothing changes. -/
def Obligations.LyWriteIsIgnored : Prop :=
  ∀ (s : State) (d : Byte), decode ⟨0x20004, d⟩ = .ok (.wrLy d) ∧ exec (.wrLy d) s = .next { s with out := {} }

/-- R128: LYC takes the byte and the flag becomes `LY == LYC`; STAT is requested when the flag rises with the display on and
its source enabled. Writing the value LYC holds changes nothing where the flag is right. -/
def Obligations.LycWriteUpdatesTheFlag : Prop :=
  ∀ (s : State) (d : Byte), decode ⟨0x20005, d⟩ = .ok (.wrLyc d) ∧
    exec (.wrLyc d) s = .next
      { s with
        lyc := d, coin := s.ly == d
        out := { stat := (s.ly == d) && !s.coin && s.lcdc.getLsbD 7 && s.statEn.getLsbD 3 } } ∧
    (s.coin = (s.ly == s.lyc) → exec (.wrLyc s.lyc) s = .next { s with out := {} })

/-- R123, R168: a write that clears bit 7 turns the display off in every mode: LY, dot, mode, the window mark, the sprite
fetch and the queue go to rest, the flag follows LY, nothing is emitted, and the frame buffer and all else stay. -/
def Obligations.DisplayOffRestsTheSequencer : Prop :=
  ∀ (s : State) (d : Byte), s.lcdc.getLsbD 7 = true → d.getLsbD 7 = false →
    exec (.wrLcdc d) s = .next
      { s with
        lcdc := d, ly := 0, dot := 0, mode := .hblank, winDrawn := false, sactive := false, queue := [], head := 0
        coin := (0 : Byte) == s.lyc
        out := {} }

/-- R167: a write that sets bit 7 enters OAM_SEARCH at dot 0 of line 0: WLC is cleared, the scan runs with the byte just
written, and STAT is requested if the mode-2 source is enabled. -/
def Obligations.DisplayOnEntersOamSearch : Prop :=
  ∀ (s : State) (d : Byte), Inv s → s.lcdc.getLsbD 7 = false → d.getLsbD 7 = true →
    exec (.wrLcdc d) s = .next
      { s with
        lcdc := d, ly := 0, dot := 0, mode := .oamSearch, wlc := 0
        queue := (oamScan { s with lcdc := d }).queue, head := 0
        out := { stat := s.statEn.getLsbD 2 } }

/-- 40_register_ops.md, R123: a write that leaves bit 7 as it is stores the byte and does nothing else, whatever the mode. -/
def Obligations.LcdcWriteWithoutPowerChangeStoresTheByte : Prop :=
  ∀ (s : State) (d : Byte), d.getLsbD 7 = s.lcdc.getLsbD 7 →
    exec (.wrLcdc d) s = .next { s with lcdc := d, out := {} }

/-- 40_register_ops.md, sections 2 and 3: what is written is what is read back; STAT gives back its four enables, LY keeps its
value. -/
def Obligations.RegisterReadsBackWhatWasWritten : Prop :=
  ∀ (s : State) (d : Byte),
    (∃ t, exec (.wrLcdc d) s = .next t ∧ exec .rdLcdc t = .next { t with out := { data := some d } }) ∧
    (∃ t, exec (.wrScy d) s = .next t ∧ exec .rdScy t = .next { t with out := { data := some d } }) ∧
    (∃ t, exec (.wrScx d) s = .next t ∧ exec .rdScx t = .next { t with out := { data := some d } }) ∧
    (∃ t, exec (.wrLyc d) s = .next t ∧ exec .rdLyc t = .next { t with out := { data := some d } }) ∧
    (∃ t, exec (.wrBgp d) s = .next t ∧ exec .rdBgp t = .next { t with out := { data := some d } }) ∧
    (∃ t, exec (.wrObp0 d) s = .next t ∧ exec .rdObp0 t = .next { t with out := { data := some d } }) ∧
    (∃ t, exec (.wrObp1 d) s = .next t ∧ exec .rdObp1 t = .next { t with out := { data := some d } }) ∧
    (∃ t, exec (.wrWy d) s = .next t ∧ exec .rdWy t = .next { t with out := { data := some d } }) ∧
    (∃ t, exec (.wrWx d) s = .next t ∧ exec .rdWx t = .next { t with out := { data := some d } }) ∧
    (∃ t b, exec (.wrStat d) s = .next t ∧ exec .rdStat t = .next { t with out := { data := some b } } ∧
      b &&& 0x78 = d &&& 0x78) ∧
    (∃ t, exec (.wrLy d) s = .next t ∧ exec .rdLy t = .next { t with out := { data := some s.ly } })

/-! ## Video memory -/

/-- R140: the offset wraps to 13 bits; in PIXEL_TRANSFER the read returns 0xFF, in every other mode the stored byte; nothing
else is emitted or changes. -/
def Obligations.VramReadIsGatedInTransfer : Prop :=
  ∀ (s : State) (a : Offset), (∀ x, decode ⟨(3 : BitVec 3) ++ a, x⟩ = .ok (.vrd a)) ∧
    exec (.vrd a) s = .next
      { s with
        out := { data := some (if s.mode = .pixelTransfer then 0xFF else Memory.read s.vram (a.toNat % 8192)) } }

/-- 41_video_memory_ops.md, R141, and 20_memory.md, R64, R67: a write in PIXEL_TRANSFER is dropped with no trace; in every other
mode it changes the byte at the wrapped offset and no other byte. -/
def Obligations.VramWriteIsDroppedInTransfer : Prop :=
  ∀ (s : State) (a : Offset) (d : Byte), Memory.wf Config.vramSize s.vram →
    decode ⟨(4 : BitVec 3) ++ a, d⟩ = .ok (.vwr a d) ∧
    ∃ t, exec (.vwr a d) s = .next t ∧ t = { s with vram := t.vram, out := {} } ∧
      (s.mode = .pixelTransfer → t.vram = s.vram) ∧
      (s.mode ≠ .pixelTransfer →
        ∀ b, Memory.read t.vram b = if b = a.toNat % 8192 then d else Memory.read s.vram b)

/-- R142: the offset wraps modulo 160; in OAM_SEARCH and PIXEL_TRANSFER the read returns 0xFF, otherwise the stored byte. -/
def Obligations.OamReadIsGatedInSearchAndTransfer : Prop :=
  ∀ (s : State) (a : Offset), (∀ x, decode ⟨(5 : BitVec 3) ++ a, x⟩ = .ok (.ord a)) ∧
    exec (.ord a) s = .next
      { s with
        out :=
          { data := some (if s.mode = .oamSearch ∨ s.mode = .pixelTransfer then 0xFF
              else Memory.read s.oam (a.toNat % 160)) } }

/-- R143: a write in OAM_SEARCH or PIXEL_TRANSFER is dropped; in HBLANK and VBLANK it changes the byte at the wrapped offset and
no other byte. A write in HBLANK is seen by the scan of the next OAM_SEARCH entry. -/
def Obligations.OamWriteIsDroppedInSearchAndTransfer : Prop :=
  ∀ (s : State) (a : Offset) (d : Byte), Memory.wf Config.oamSize s.oam →
    decode ⟨(6 : BitVec 3) ++ a, d⟩ = .ok (.owr a d) ∧
    ∃ t, exec (.owr a d) s = .next t ∧ t = { s with oam := t.oam, out := {} } ∧
      (s.mode = .oamSearch ∨ s.mode = .pixelTransfer → t.oam = s.oam) ∧
      (s.mode = .hblank ∨ s.mode = .vblank →
        ∀ b, Memory.read t.oam b = if b = a.toNat % 160 then d else Memory.read s.oam b) ∧
      (s.mode = .hblank → ∀ u, exec .step t = .next u → u.mode = .oamSearch →
        u.queue = (oamScan { t with ly := u.ly }).queue)

/-- R144: the DMA port writes OAM in every mode, changes the byte at the wrapped offset and no other, and leaves the line's
queue. -/
def Obligations.DmaWritesOamInEveryMode : Prop :=
  ∀ (s : State) (a : Offset) (d : Byte), Memory.wf Config.oamSize s.oam →
    decode ⟨(7 : BitVec 3) ++ a, d⟩ = .ok (.dma a d) ∧
    ∃ t, exec (.dma a d) s = .next t ∧ t = { s with oam := t.oam, out := {} } ∧
      ∀ b, Memory.read t.oam b = if b = a.toNat % 160 then d else Memory.read s.oam b

/-- R70: while the display is off both memories are open to the bus. -/
def Obligations.MemoriesAreOpenWhileTheDisplayIsOff : Prop :=
  ∀ (s : State) (a : Offset), Inv s → s.lcdc.getLsbD 7 = false →
    exec (.vrd a) s = .next { s with out := { data := some (Memory.read s.vram (a.toNat % 8192)) } } ∧
    exec (.ord a) s = .next { s with out := { data := some (Memory.read s.oam (a.toNat % 160)) } } ∧
    ∀ d, (∃ t, exec (.vwr a d) s = .next t ∧ Memory.read t.vram (a.toNat % 8192) = d) ∧
      (∃ t, exec (.owr a d) s = .next t ∧ Memory.read t.oam (a.toNat % 160) = d)

/-! ## Rules of the whole machine -/

/-- 20_memory.md, R71: of all requests only VWR changes VRAM, and only OWR and DMA change OAM. -/
def Obligations.MemoriesAreWrittenThroughTheirPortsAlone : Prop :=
  ∀ (i : Instr) (s t : State), exec i s = .next t →
    (t.vram ≠ s.vram → ∃ a d, i = .vwr a d ∧ s.mode ≠ .pixelTransfer) ∧
    (t.oam ≠ s.oam → ∃ a d, (i = .owr a d ∧ (s.mode = .hblank ∨ s.mode = .vblank)) ∨ i = .dma a d)

/-- 46_pixel_mixer.md, R245: a pixel of the frame buffer changes only in a PIXEL_TRANSFER dot, only at the cursor of the
current line, and the cursor then moves on. -/
def Obligations.FrameBufferChangesOnlyAtTheCursor : Prop :=
  ∀ (i : Instr) (s t : State), Memory.wf Config.fbSize s.fb → exec i s = .next t →
    ∀ k, Memory.read t.fb k ≠ Memory.read s.fb k →
      i = .step ∧ transferring s ∧ k = 160 * s.ly.toNat + s.cursor ∧ t.cursor = s.cursor + 1

/-- 40_register_ops.md, section 3: each writable register changes only by its own write request, and then to the byte written
(STAT: to its bits 6..3). -/
def Obligations.RegistersChangeOnlyByTheirOwnWrite : Prop :=
  ∀ (i : Instr) (s t : State), exec i s = .next t →
    (t.lcdc ≠ s.lcdc → i = .wrLcdc t.lcdc) ∧
    (t.statEn ≠ s.statEn → ∃ d, i = .wrStat d ∧ t.statEn = d.extractLsb' 3 4) ∧
    (t.scy ≠ s.scy → i = .wrScy t.scy) ∧ (t.scx ≠ s.scx → i = .wrScx t.scx) ∧
    (t.lyc ≠ s.lyc → i = .wrLyc t.lyc) ∧ (t.bgp ≠ s.bgp → i = .wrBgp t.bgp) ∧
    (t.obp0 ≠ s.obp0 → i = .wrObp0 t.obp0) ∧ (t.obp1 ≠ s.obp1 → i = .wrObp1 t.obp1) ∧
    (t.wy ≠ s.wy → i = .wrWy t.wy) ∧ (t.wx ≠ s.wx → i = .wrWx t.wx)

/-- R25: LY is always in 0..153, before a request and after it, the bus reads it, and only the sequencer, at the end of a line,
and the power-off write change it. -/
def Obligations.LyChangesOnlyAtLineEndOrPowerOff : Prop :=
  ∀ (i : Instr) (s t : State), exec i s = .next t →
    (Inv s → s.ly.toNat ≤ 153 ∧ t.ly.toNat ≤ 153) ∧
    (exec .rdLy s = .next { s with out := { data := some s.ly } }) ∧
    (t.ly ≠ s.ly →
      (i = .step ∧ s.lcdc.getLsbD 7 = true ∧ s.dot = 455 ∧ (s.mode = .hblank ∨ s.mode = .vblank)) ∨
      (∃ d, i = .wrLcdc d ∧ s.lcdc.getLsbD 7 = true ∧ d.getLsbD 7 = false ∧ t.ly = 0))

/-- 60_exceptions.md, section 2, and 42_mode_sequencer.md, R160, R162: VBLANK is requested by the step that ends line 143, and
by nothing else; the frame buffer as it stands is presented with it, and by nothing else. -/
def Obligations.VblankAndPresentComeAtTheEndOfLine143 : Prop :=
  ∀ (i : Instr) (s t : State), exec i s = .next t →
    (t.out.vblank = true ↔ i = .step ∧ s.lcdc.getLsbD 7 = true ∧ s.mode = .hblank ∧ s.dot = 455 ∧ s.ly = 143) ∧
    t.out.present = (if t.out.vblank then some s.fb else none)

/-- 60_exceptions.md, R262, R263: a STAT request has a source that is enabled at the moment of its event: an entry to mode 0, 1
or 2, or a rise of the coincidence flag with the display on. -/
def Obligations.StatRequestsHaveAnEnabledSource : Prop :=
  ∀ (i : Instr) (s t : State), exec i s = .next t → t.out.stat = true →
    (s.statEn.getLsbD 0 = true ∧ i = .step ∧ s.mode = .pixelTransfer ∧ t.mode = .hblank) ∨
    (s.statEn.getLsbD 1 = true ∧ i = .step ∧ s.mode = .hblank ∧ t.mode = .vblank) ∨
    (s.statEn.getLsbD 2 = true ∧ t.mode = .oamSearch ∧
      ((i = .step ∧ s.dot = 455) ∨ ∃ d, i = .wrLcdc d ∧ s.lcdc.getLsbD 7 = false ∧ d.getLsbD 7 = true)) ∨
    (s.statEn.getLsbD 3 = true ∧ s.lcdc.getLsbD 7 = true ∧ s.coin = false ∧ t.coin = true)

/-- 44_bg_window_fetcher.md, R206: once the window is started on a line, no request takes the fetcher back to the background
while the line's PIXEL_TRANSFER goes on. -/
def Obligations.StartedWindowStaysOn : Prop :=
  ∀ (i : Instr) (s t : State), exec i s = .next t → s.mode = .pixelTransfer → s.winMode = true →
    t.mode = .pixelTransfer → t.winMode = true

/-! ## The sequencer's dots -/

/-- R151: while the display is off a STEP changes no state and emits nothing, and the sequencer rests at LY 0, dot 0, HBLANK. -/
def Obligations.StepWhileOffDoesNothing : Prop :=
  ∀ s : State, s.lcdc.getLsbD 7 = false →
    exec .step s = .next { s with out := {} } ∧ (Inv s → s.ly = 0 ∧ s.dot = 0 ∧ s.mode = .hblank)

/-- 42_mode_sequencer.md, R156: a dot of HBLANK or VBLANK that does not end the line only counts. -/
def Obligations.BlankDotOnlyCounts : Prop :=
  ∀ s : State, s.lcdc.getLsbD 7 = true → s.mode = .hblank ∨ s.mode = .vblank → s.dot + 1 ≠ 456 →
    exec .step s = .next { s with dot := s.dot + 1, out := {} }

/-- R152, R153, R199, R204, R231: the dots of OAM_SEARCH only count; the step whose counter reaches 80 enters PIXEL_TRANSFER with
the cursor, the fetchers, the window flags, the discard count and the slots set, the queue and the latches kept. -/
def Obligations.OamSearchCountsThenEntersTransfer : Prop :=
  ∀ s : State, s.lcdc.getLsbD 7 = true → s.mode = .oamSearch →
    (s.dot + 1 ≠ 80 → exec .step s = .next { s with dot := s.dot + 1, out := {} }) ∧
    (s.dot + 1 = 80 →
      let line : Bool := s.lcdc.getLsbD 5 && decide (s.wy.toNat ≤ s.ly.toNat)
      let left : Bool := line && decide (s.wx.toNat ≤ 7)
      exec .step s = .next
        { s with
          mode := .pixelTransfer, dot := 80, cursor := 0
          fphase := .ti, fsub := false, savedPhase := .ti, bgTile := 0, winTile := 0, bgLo := 0, bgHi := 0, bgCount := 0
          winLine := line, winMode := left, winDrawn := s.winDrawn || left
          discard := if left then 7 - s.wx.toNat else s.scx.toNat % 8
          head := 0, sactive := false, sphase := .addr, ssub := false
          slots := List.replicate 10 { lo := 0, hi := 0, count := 0, attr := 0 }
          out := {} })

/-- R157, R159, R160, R161: the step that ends a line resets the dot, counts WLC where the window was shown, advances LY with a
wrap at 153, updates the flag, and then enters VBLANK at LY 144, OAM_SEARCH on a visible line or after line 153, or goes on in
VBLANK; it requests and presents exactly what those entries and a rise of the flag ask, and leaves all else. -/
def Obligations.EndOfLineAdvancesTheFrame : Prop :=
  ∀ s : State, s.lcdc.getLsbD 7 = true → s.mode = .hblank ∨ s.mode = .vblank → s.dot = 455 →
    let line : Byte := if s.ly = 153 then 0 else s.ly + 1
    let toVblank : Bool := decide (s.mode = .hblank) && (line == 144)
    let toOam : Bool := if s.mode = .hblank then !(line == 144) else line == 0
    let counted : Byte := if s.winDrawn then s.wlc + 1 else s.wlc
    exec .step s = .next
      { s with
        dot := 0, ly := line, winDrawn := false, coin := line == s.lyc
        wlc := if toOam && line == 0 then 0 else counted
        mode := if toVblank then .vblank else if toOam then .oamSearch else s.mode
        queue := if toOam then (oamScan { s with ly := line }).queue else s.queue
        head := if toOam then 0 else s.head
        out :=
          { vblank := toVblank
            stat := ((line == s.lyc) && !s.coin && s.statEn.getLsbD 3) || (toVblank && s.statEn.getLsbD 1) ||
              (toOam && s.statEn.getLsbD 2)
            present := if toVblank then some s.fb else none } }

/-- R155: the step in which the 160th pixel of the line is written enters HBLANK and requests STAT if the mode-0 source is
enabled; a PIXEL_TRANSFER dot that does not write it stays in the mode and emits nothing. -/
def Obligations.TransferEndsAtThe160thPixel : Prop :=
  ∀ s : State, Inv s → transferring s → ∃ t, exec .step s = .next t ∧ t.dot = s.dot + 1 ∧
    (t.cursor = 160 → t.mode = .hblank ∧ t.out = { stat := s.statEn.getLsbD 0 }) ∧
    (t.cursor ≠ 160 → t.mode = .pixelTransfer ∧ t.out = {})

/-- 42_mode_sequencer.md, R158: a PIXEL_TRANSFER dot that brings the counter to 456 with the line unfinished sets the mark, and
from a state that meets the invariant it cannot happen. That the marked state, which is never final, goes no further by a
fault of its own is the model's choice (entry 5). -/
def Obligations.TransferOverrunIsMarkedAndUnreachable : Prop :=
  ∀ s : State, transferring s → s.dot = 455 →
    (∀ t, exec .step s = .next t → t.cursor ≠ 160 → t.faulted = true ∧ step t = .fault .markedUnreachable) ∧ ¬ Inv s

/-! ## The OAM scanner -/

/-- R180 to R183: the scan takes the first ten entries, in table order, that are visible on the line, reads them from OAM
whatever the mode, and leaves them sorted by `x` with ties in table order; head is 0 and nothing else changes. -/
def Obligations.ScanQueuesTheFirstTenVisibleSorted : Prop :=
  ∀ s : State,
    let height : Nat := if s.lcdc.getLsbD 2 then 16 else 8
    let entry : Nat → Sprite := fun k =>
      { y := Memory.read s.oam (4 * k), x := Memory.read s.oam (4 * k + 1), tile := Memory.read s.oam (4 * k + 2)
        attr := Memory.read s.oam (4 * k + 3), oamIndex := k }
    let visible : Nat → Bool := fun k =>
      decide (((entry k).y.toNat : Int) - 16 ≤ s.ly.toNat ∧ (s.ly.toNat : Int) < (entry k).y.toNat - 16 + height)
    let q := (oamScan s).queue
    q.Perm ((((List.range 40).filter visible).take 10).map entry) ∧
    q.Pairwise (fun e f => e.x.toNat < f.x.toNat ∨ (e.x = f.x ∧ e.oamIndex < f.oamIndex)) ∧
    oamScan s = { s with queue := q, head := 0 }

/-- R181: visibility as integers without wrap; a `y` of 0 is never visible, and one of 160 or more never on lines 0..143. -/
def Obligations.SpriteVisibilityIsItsVerticalExtent : Prop :=
  ∀ (ly y : Byte) (h : Nat), h = 8 ∨ h = 16 →
    (spriteVisible ly y h = true ↔ (y.toNat : Int) - 16 ≤ ly.toNat ∧ (ly.toNat : Int) < y.toNat - 16 + h) ∧
    (y = 0 → spriteVisible ly y h = false) ∧
    (160 ≤ y.toNat → ly.toNat ≤ 143 → spriteVisible ly y h = false)

/-! ## The background and window fetcher -/

/-- R91: unsigned addressing reaches 0x0000..0x0FF0, signed addressing 0x0800..0x17F0, and index 128 is the same tile in both. -/
def Obligations.TileAddressingModes : Prop :=
  ∀ (s : State) (i : Byte),
    (s.lcdc.getLsbD 4 = true → tileBase s i = 16 * i.toNat) ∧
    (s.lcdc.getLsbD 4 = false → (tileBase s i : Int) = 0x1000 + 16 * i.toInt) ∧
    (i.toNat < 128 → s.lcdc.getLsbD 4 = false → tileBase s i = 0x1000 + 16 * i.toNat) ∧
    (128 ≤ i.toNat → tileBase s i = 16 * i.toNat)

/-- R66: every VRAM offset the block computes lies in the storage, so the reduction changes none; the map offset is in a map
and the tile row offset below the maps. -/
def Obligations.ComputedOffsetsLieInVram : Prop :=
  ∀ (s : State) (e : Sprite),
    0x1800 ≤ mapAddr s ∧ mapAddr s ≤ 0x1FFF ∧ dataAddr s ≤ 0x17FE ∧ spriteRowAddr s e ≤ 0x0FFE ∧
    (BitVec.ofNat 13 (spriteRowAddr s e)).toNat = spriteRowAddr s e

/-- R192 to R195, with the addresses of R196 and R197: on a dot with no sprite fetch and no window start, the first dot of a
phase only counts; the second fetches the tile index, the low plane or the high plane, or loads the pair when it is empty
(the mixer takes the first of its eight pixels on the same dot) and otherwise waits. What else the dot leaves is in
`plainDotFrame`. -/
def Obligations.BackgroundFetcherPhases : Prop :=
  ∀ s : State, plainDot s → ∃ t, exec .step s = .next t ∧ plainDotFrame s t ∧
    let row : Nat := (s.ly.toNat + s.scy.toNat) % 256
    let map : Nat :=
      if s.winMode then
        (if s.lcdc.getLsbD 6 then 0x1C00 else 0x1800) + 32 * (s.wlc.toNat / 8) + s.winTile.toNat % 32
      else (if s.lcdc.getLsbD 3 then 0x1C00 else 0x1800) + 32 * (row / 8) + (s.scx.toNat / 8 + s.bgTile.toNat) % 32
    let data : Nat := tileBase s s.tileLatch + 2 * (if s.winMode then s.wlc.toNat % 8 else row % 8)
    (s.fsub = false → t.fsub = true ∧ t.fphase = s.fphase ∧ t.tileLatch = s.tileLatch ∧ t.loLatch = s.loLatch ∧
      t.hiLatch = s.hiLatch ∧ t.bgTile = s.bgTile ∧ t.winTile = s.winTile) ∧
    (s.fsub = true → s.fphase = .ti → t.tileLatch = Memory.read s.vram map ∧ t.fphase = .lo ∧ t.fsub = false ∧
      t.loLatch = s.loLatch ∧ t.hiLatch = s.hiLatch ∧ t.bgTile = s.bgTile ∧ t.winTile = s.winTile) ∧
    (s.fsub = true → s.fphase = .lo → t.loLatch = Memory.read s.vram data ∧ t.fphase = .hi ∧ t.fsub = false ∧
      t.tileLatch = s.tileLatch ∧ t.hiLatch = s.hiLatch ∧ t.bgTile = s.bgTile ∧ t.winTile = s.winTile) ∧
    (s.fsub = true → s.fphase = .hi → t.hiLatch = Memory.read s.vram (data + 1) ∧ t.fphase = .push ∧ t.fsub = false ∧
      t.tileLatch = s.tileLatch ∧ t.loLatch = s.loLatch ∧ t.bgTile = s.bgTile ∧ t.winTile = s.winTile) ∧
    (s.fsub = true → s.fphase = .push →
      t.tileLatch = s.tileLatch ∧ t.loLatch = s.loLatch ∧ t.hiLatch = s.hiLatch ∧
      (s.bgCount = 0 → t.fphase = .ti ∧ t.fsub = false ∧
        t.bgLo = s.loLatch <<< 1 ∧ t.bgHi = s.hiLatch <<< 1 ∧ t.bgCount = 7 ∧
        t.winTile = (if s.winMode then s.winTile + 1 else s.winTile) ∧
        t.bgTile = (if s.winMode then s.bgTile else s.bgTile + 1)) ∧
      (s.bgCount ≠ 0 → t.fphase = .push ∧ t.fsub = true ∧ t.winTile = s.winTile ∧ t.bgTile = s.bgTile))

/-- R205: on the dot at which the window starts, the pair is emptied, the fetch restarts at TI (its first dot is this one,
unless a sprite fetch starts on it too), and the mixer stalls; no column is written before the window's first, WX - 7, and
nothing else changes but the dot and what a sprite trigger sets. On any other dot the window flags stay, and a WX of 167 or
more never starts it. -/
def Obligations.WindowStartRestartsTheFetch : Prop :=
  ∀ s : State, Inv s → transferring s → s.sactive = false → ∃ t, exec .step s = .next t ∧
    (windowStarts s →
      t.winMode = true ∧ t.winDrawn = true ∧ t.bgLo = 0 ∧ t.bgHi = 0 ∧ t.bgCount = 0 ∧ t.fphase = .ti ∧ t.winTile = 0 ∧
      (t.sactive = true ↔ spriteTriggers s) ∧ t.fsub = !t.sactive ∧
      t.cursor = s.wx.toNat - 7 ∧
      (t.sactive = false → t.savedPhase = s.savedPhase ∧ t.sphase = s.sphase ∧ t.ssub = s.ssub) ∧
      t = { s with
        dot := s.dot + 1, out := {}, winMode := true, winDrawn := true, bgLo := 0, bgHi := 0, bgCount := 0, fphase := .ti
        winTile := 0, fsub := t.fsub, sactive := t.sactive, savedPhase := t.savedPhase, sphase := t.sphase
        ssub := t.ssub }) ∧
    (¬ windowStarts s → t.winMode = s.winMode ∧ t.winDrawn = s.winDrawn) ∧
    (167 ≤ s.wx.toNat → ¬ windowStarts s)

/-! ## The sprite fetcher -/

/-- R220: a fetch starts on a dot with none in progress exactly when OBJ_EN is 1 and the earliest unconsumed entry has
`x - 8` at or left of the cursor; S_ADDR then does its first dot, the background phase is saved (TI where the window starts on
the same dot), and nothing else changes but the dot and what a window start sets. An entry with `x` of 168 or more never
triggers. -/
def Obligations.SpriteTriggerIsTheEarliestReachedEntry : Prop :=
  ∀ s : State, Inv s → transferring s → s.sactive = false → ∃ t, exec .step s = .next t ∧
    (t.sactive = true ↔ spriteTriggers s) ∧
    (t.sactive = true →
      let w : State :=
        if windowStarts s then
          { s with
            winMode := true, winDrawn := true, bgLo := 0, bgHi := 0, bgCount := 0, fphase := .ti, fsub := false
            winTile := 0 }
        else s
      t = { w with dot := s.dot + 1, out := {}, sactive := true, savedPhase := w.fphase, sphase := .addr, ssub := true }) ∧
    (∀ e ∈ s.queue[s.head]?, 168 ≤ e.x.toNat → t.sactive = false)

/-- 45_sprite_fetcher.md, R221, R222: while a sprite fetch runs, nothing but the sprite fetcher, and at its end the slots, the
head and the background phase, moves: the pair, the latches, the discard count, the cursor and the frame buffer stay. -/
def Obligations.SpriteFetchStallsEverythingElse : Prop :=
  ∀ s : State, Inv s → transferring s → s.sactive = true → ∃ t, exec .step s = .next t ∧
    t = { s with
      dot := s.dot + 1, out := {}, saddr := t.saddr, sLo := t.sLo, sHi := t.sHi, sphase := t.sphase, ssub := t.ssub
      slots := t.slots, head := t.head, sactive := t.sactive, fphase := t.fphase, fsub := t.fsub } ∧
    t.fphase = s.fphase ∧ (t.sactive = true → t.slots = s.slots ∧ t.head = s.head ∧ t.fsub = s.fsub)

/-- R222, R226: a fetch takes six dots, the trigger dot included; it then fills the entry's slot with the two planes of the
sprite's row, flipped when the attribute asks and shifted by the columns left of the cursor, consumes the entry, and restarts
the interrupted phase. -/
def Obligations.SpriteFetchTakesSixDots : Prop :=
  ∀ (s : State) (e : Sprite), Inv s → transferring s → s.sactive = false → spriteTriggers s →
    s.queue[s.head]? = some e →
    let a : Nat := spriteRowAddr s e
    let shift : Nat := min 8 (s.cursor + 8 - e.x.toNat)
    let plane : Byte → Byte := fun b => (if e.attr.getLsbD 5 then b.reverse else b) <<< shift
    (∀ k, 1 ≤ k → k ≤ 5 → ∃ t, execSteps k s = .next t ∧ t.sactive = true ∧ t.head = s.head ∧ t.slots = s.slots) ∧
    ∃ t, execSteps 6 s = .next t ∧ t.sactive = false ∧ t.head = s.head + 1 ∧ t.dot = s.dot + 6 ∧ t.mode = s.mode ∧
      t.cursor = s.cursor ∧ t.fb = s.fb ∧ t.bgCount = (if windowStarts s then 0 else s.bgCount) ∧
      t.fphase = (if windowStarts s then .ti else s.fphase) ∧ t.fsub = false ∧
      t.slots = s.slots.set s.head
        { lo := plane (Memory.read s.vram a), hi := plane (Memory.read s.vram (a + 1)), count := 8 - shift, attr := e.attr }

/-- R98, R224 with the row of R223: a sprite row is read at `16 * tile + 2 * row` whatever TILE_DATA holds; a 16-row sprite takes
rows 0..7 from `tile & 0xFE` and rows 8..15 from `tile | 1`, after the vertical flip. -/
def Obligations.SpriteRowsComeFromTheirTile : Prop :=
  ∀ (s : State) (e : Sprite),
    let height : Nat := if s.lcdc.getLsbD 2 then 16 else 8
    let line : Nat := ((s.ly.toNat + 16 + 256 - e.y.toNat) % 256) % height
    let row : Nat := if e.attr.getLsbD 6 then height - 1 - line else line
    (s.lcdc.getLsbD 2 = false → spriteRowAddr s e = 16 * e.tile.toNat + 2 * row) ∧
    (s.lcdc.getLsbD 2 = true → row < 8 → spriteRowAddr s e = 16 * (e.tile &&& 0xFE).toNat + 2 * row) ∧
    (s.lcdc.getLsbD 2 = true → 8 ≤ row → spriteRowAddr s e = 16 * (e.tile ||| 0x01).toNat + 2 * (row - 8))

/-! ## The pixel mixer -/

/-- R241 to R244: the index of a pair is `2 * hi[7] + lo[7]`; the background index is 0 while BG_EN is 0; the candidate is the
first active slot in queue order with an index other than 0; it loses only to a background index other than 0 when its PRIO
bit is 1, and no later slot gets a second chance; the winner's palette gives the shade in bits `2i+1:2i`. -/
def Obligations.MixerArbitratesSpriteAndBackground : Prop :=
  ∀ s : State,
    let shade : Byte → Nat → Nat := fun pal i => (pal.toNat / 4 ^ i) % 4
    let b : Nat := if s.lcdc.getLsbD 0 then 2 * (s.bgHi.getLsbD 7).toNat + (s.bgLo.getLsbD 7).toNat else 0
    (∀ k z, isCandidate s k z →
      (mixShade s).toNat =
        if z.attr.getLsbD 7 = true ∧ b ≠ 0 then shade s.bgp b
        else shade (if z.attr.getLsbD 4 then s.obp1 else s.obp0) (2 * (z.hi.getLsbD 7).toNat + (z.lo.getLsbD 7).toNat)) ∧
    ((∀ k z, ¬ isCandidate s k z) → (mixShade s).toNat = shade s.bgp b)

/-- R240, R245 to R247: on a dot with no sprite fetch and no window start, the mixer does nothing while the pair is empty; with
pixels to discard it drops one and moves no slot; otherwise it writes the arbitrated shade at `FB[LY][cursor]` and nowhere else,
shifts the pair and every active slot once, and moves the cursor on. What else the dot leaves is in `plainDotFrame`. -/
def Obligations.MixerStallsDiscardsOrWritesOnePixel : Prop :=
  ∀ s : State, plainDot s → Memory.wf Config.fbSize s.fb → ∃ t, exec .step s = .next t ∧ plainDotFrame s t ∧
    t.slots.length = s.slots.length ∧
    (pairCount s = 0 →
      t.cursor = s.cursor ∧ t.discard = s.discard ∧ t.slots = s.slots ∧ t.fb = s.fb ∧ t.bgCount = 0) ∧
    (pairCount s ≠ 0 → s.discard ≠ 0 →
      t.cursor = s.cursor ∧ t.discard = s.discard - 1 ∧ t.slots = s.slots ∧ t.fb = s.fb ∧
      t.bgCount = pairCount s - 1 ∧ t.bgLo = pairLo s <<< 1 ∧ t.bgHi = pairHi s <<< 1) ∧
    (pairCount s ≠ 0 → s.discard = 0 →
      t.cursor = s.cursor + 1 ∧ t.discard = 0 ∧
      t.bgCount = pairCount s - 1 ∧ t.bgLo = pairLo s <<< 1 ∧ t.bgHi = pairHi s <<< 1 ∧
      (∀ k, Memory.read t.fb k =
        if k = 160 * s.ly.toNat + s.cursor then mixShade { s with bgLo := pairLo s, bgHi := pairHi s }
        else Memory.read s.fb k) ∧
      (∀ k z, s.slots[k]? = some z → t.slots[k]? =
        if k < s.queue.length ∧ 0 < z.count then
          some { lo := z.lo <<< 1, hi := z.hi <<< 1, count := z.count - 1, attr := z.attr }
        else some z))

/-! ## Lines and frames -/

/-- R200: on a line with no sprite at its left edge, the first tile's TI acts at dot 81, LO at 83, HI at 85, and PUSH loads the
pair at dot 87, whose first pixel is consumed in the same dot; dots 80..86 write and discard nothing. -/
def Obligations.StartupStallIsSevenDots : Prop :=
  ∀ s : State, s.lcdc.getLsbD 7 = true → s.mode = .oamSearch → s.dot = 79 →
    (s.lcdc.getLsbD 1 = true → ∀ e ∈ s.queue[0]?, 8 < e.x.toNat) →
    let phaseAt : Nat → FetchPhase := fun k => if k < 3 then .ti else if k < 5 then .lo else if k < 7 then .hi else .push
    (∀ k, 1 ≤ k → k ≤ 8 → ∃ t, execSteps k s = .next t ∧ t.dot = 79 + k ∧ t.fphase = phaseAt k ∧ t.fsub = decide (k % 2 = 0) ∧
      t.bgCount = 0 ∧ t.cursor = 0 ∧ t.fb = s.fb) ∧
    ∃ t, execSteps 9 s = .next t ∧ t.dot = 88 ∧ t.fphase = .ti ∧ t.fsub = false ∧ t.bgCount = 7

/-- R169: however SCX, the window and the sprites of the line stand, PIXEL_TRANSFER lasts `L` dots from dot 80 with `L` at most
251, and ends in HBLANK. -/
def Obligations.TransferLastsAtMost251Dots : Prop :=
  ∀ s : State, Inv s → s.lcdc.getLsbD 7 = true → s.mode = .oamSearch → s.dot = 79 →
    ∃ L, L ≤ 251 ∧ (∀ k, 1 ≤ k → k ≤ L → ∃ t, execSteps k s = .next t ∧ t.mode = .pixelTransfer) ∧
      ∃ t, execSteps (1 + L) s = .next t ∧ t.mode = .hblank ∧ t.dot = 80 + L ∧ t.cursor = 160

/-- 42_mode_sequencer.md, R165: with no window on the line and no sprite fetched, PIXEL_TRANSFER lasts exactly
`167 + (SCX mod 8)` dots. -/
def Obligations.PlainLineTransferLength : Prop :=
  ∀ s : State, Inv s → s.lcdc.getLsbD 7 = true → s.mode = .oamSearch → s.dot = 79 →
    s.lcdc.getLsbD 5 = false ∨ s.ly.toNat < s.wy.toNat ∨ 167 ≤ s.wx.toNat →
    s.lcdc.getLsbD 1 = false ∨ s.queue = [] →
    (∀ k, 1 ≤ k → k ≤ 167 + s.scx.toNat % 8 → ∃ t, execSteps k s = .next t ∧ t.mode = .pixelTransfer) ∧
    ∃ t, execSteps (1 + (167 + s.scx.toNat % 8)) s = .next t ∧ t.mode = .hblank ∧ t.dot = 247 + s.scx.toNat % 8

/-- 42_mode_sequencer.md, R156, R157: a line of any content takes 456 STEPs and leads to dot 0 of the next line. -/
def Obligations.EveryLineTakes456Steps : Prop :=
  ∀ s : State, Inv s → s.lcdc.getLsbD 7 = true → s.dot = 0 → ∃ t, execSteps 456 s = .next t ∧ Inv t ∧
    t.dot = 0 ∧ t.ly = (if s.ly = 153 then 0 else s.ly + 1) ∧
    (s.mode = .vblank → t.mode = (if t.ly = 0 then .oamSearch else .vblank)) ∧
    (s.mode ≠ .vblank → t.mode = (if t.ly = 144 then .vblank else .oamSearch))

/-- R164: a frame is 70224 dots from one OAM_SEARCH entry on line 0 to the next: after any requests that keep the display on,
whatever they read, write or draw, the sequencer is at that entry exactly when the STEPs among them are a whole number of
frames. -/
def Obligations.EveryFrameTakes70224Steps : Prop :=
  ∀ (s : State) (requests : List Instr), Inv s → s.lcdc.getLsbD 7 = true → s.mode = .oamSearch → s.ly = 0 → s.dot = 0 →
    (∀ d, Instr.wrLcdc d ∈ requests → d.getLsbD 7 = true) →
    ∃ t, execAll requests s = .next t ∧
      ((t.mode = .oamSearch ∧ t.ly = 0 ∧ t.dot = 0) ↔ requests.count .step % 70224 = 0)

/-- 70_reset_and_hazards.md, R282, and 42_mode_sequencer.md, R162: from OAM_SEARCH entry on line 0 the frame is presented by STEP
65664 and by no STEP before it, with the VBLANK request, at LY 144. -/
def Obligations.FrameIsPresentedAfter144Lines : Prop :=
  ∀ s : State, Inv s → s.lcdc.getLsbD 7 = true → s.mode = .oamSearch → s.ly = 0 → s.dot = 0 →
    (∀ k, 0 < k → k < 65664 → ∃ t, execSteps k s = .next t ∧ t.out.vblank = false ∧ t.out.present = none) ∧
    ∃ t, execSteps 65664 s = .next t ∧ t.out.vblank = true ∧ t.out.present = some t.fb ∧ t.mode = .vblank ∧ t.ly = 144 ∧
      t.dot = 0

/-- 42_mode_sequencer.md, R163: the presented frame is written whole in the frame it ends: it does not depend on what the frame
buffer held when the frame began. -/
def Obligations.PresentedFrameForgetsTheOldFrameBuffer : Prop :=
  ∀ (s : State) (old : Memory 2), Inv s → Memory.wf Config.fbSize old →
    s.lcdc.getLsbD 7 = true → s.mode = .oamSearch → s.ly = 0 → s.dot = 0 →
    ∃ t u, execSteps 65664 s = .next t ∧ execSteps 65664 { s with fb := old } = .next u ∧
      t.out.present.isSome = true ∧ t.out.present = u.out.present

/-- 70_reset_and_hazards.md, R281: from VBLANK at dot 0 of line 0, where power-on leaves the sequencer, 154 VBLANK lines pass
before the first OAM_SEARCH, which is entered by STEP 70224; until then nothing is presented and VBLANK is not requested. -/
def Obligations.PowerOnFrameIs154BlankLines : Prop :=
  ∀ s : State, Inv s → s.lcdc.getLsbD 7 = true → s.mode = .vblank → s.ly = 0 → s.dot = 0 →
    (∀ k, 0 < k → k < 70224 → ∃ t, execSteps k s = .next t ∧ t.mode = .vblank ∧ t.out.vblank = false ∧
      t.out.present = none) ∧
    ∃ t, execSteps 70224 s = .next t ∧ t.mode = .oamSearch ∧ t.ly = 0 ∧ t.dot = 0 ∧ t.out.vblank = false ∧
      t.out.present = none
end

