-- ==== Sys2Proof/Laws/State.lean ====
section
/-! SUPPORT. One lemma per field for each update of the shared operations, so that no later proof unfolds one. -/

namespace Sys2Proof.Machine

@[simp] theorem clearOut_lcdc (s : State) : (clearOut s).lcdc = s.lcdc := rfl
@[simp] theorem clearOut_statEn (s : State) : (clearOut s).statEn = s.statEn := rfl
@[simp] theorem clearOut_scy (s : State) : (clearOut s).scy = s.scy := rfl
@[simp] theorem clearOut_scx (s : State) : (clearOut s).scx = s.scx := rfl
@[simp] theorem clearOut_ly (s : State) : (clearOut s).ly = s.ly := rfl
@[simp] theorem clearOut_lyc (s : State) : (clearOut s).lyc = s.lyc := rfl
@[simp] theorem clearOut_bgp (s : State) : (clearOut s).bgp = s.bgp := rfl
@[simp] theorem clearOut_obp0 (s : State) : (clearOut s).obp0 = s.obp0 := rfl
@[simp] theorem clearOut_obp1 (s : State) : (clearOut s).obp1 = s.obp1 := rfl
@[simp] theorem clearOut_wy (s : State) : (clearOut s).wy = s.wy := rfl
@[simp] theorem clearOut_wx (s : State) : (clearOut s).wx = s.wx := rfl
@[simp] theorem clearOut_mode (s : State) : (clearOut s).mode = s.mode := rfl
@[simp] theorem clearOut_dot (s : State) : (clearOut s).dot = s.dot := rfl
@[simp] theorem clearOut_coin (s : State) : (clearOut s).coin = s.coin := rfl
@[simp] theorem clearOut_wlc (s : State) : (clearOut s).wlc = s.wlc := rfl
@[simp] theorem clearOut_winDrawn (s : State) : (clearOut s).winDrawn = s.winDrawn := rfl
@[simp] theorem clearOut_winLine (s : State) : (clearOut s).winLine = s.winLine := rfl
@[simp] theorem clearOut_winMode (s : State) : (clearOut s).winMode = s.winMode := rfl
@[simp] theorem clearOut_queue (s : State) : (clearOut s).queue = s.queue := rfl
@[simp] theorem clearOut_head (s : State) : (clearOut s).head = s.head := rfl
@[simp] theorem clearOut_fphase (s : State) : (clearOut s).fphase = s.fphase := rfl
@[simp] theorem clearOut_fsub (s : State) : (clearOut s).fsub = s.fsub := rfl
@[simp] theorem clearOut_savedPhase (s : State) : (clearOut s).savedPhase = s.savedPhase := rfl
@[simp] theorem clearOut_bgTile (s : State) : (clearOut s).bgTile = s.bgTile := rfl
@[simp] theorem clearOut_winTile (s : State) : (clearOut s).winTile = s.winTile := rfl
@[simp] theorem clearOut_tileLatch (s : State) : (clearOut s).tileLatch = s.tileLatch := rfl
@[simp] theorem clearOut_loLatch (s : State) : (clearOut s).loLatch = s.loLatch := rfl
@[simp] theorem clearOut_hiLatch (s : State) : (clearOut s).hiLatch = s.hiLatch := rfl
@[simp] theorem clearOut_bgLo (s : State) : (clearOut s).bgLo = s.bgLo := rfl
@[simp] theorem clearOut_bgHi (s : State) : (clearOut s).bgHi = s.bgHi := rfl
@[simp] theorem clearOut_bgCount (s : State) : (clearOut s).bgCount = s.bgCount := rfl
@[simp] theorem clearOut_discard (s : State) : (clearOut s).discard = s.discard := rfl
@[simp] theorem clearOut_cursor (s : State) : (clearOut s).cursor = s.cursor := rfl
@[simp] theorem clearOut_sactive (s : State) : (clearOut s).sactive = s.sactive := rfl
@[simp] theorem clearOut_sphase (s : State) : (clearOut s).sphase = s.sphase := rfl
@[simp] theorem clearOut_ssub (s : State) : (clearOut s).ssub = s.ssub := rfl
@[simp] theorem clearOut_saddr (s : State) : (clearOut s).saddr = s.saddr := rfl
@[simp] theorem clearOut_sLo (s : State) : (clearOut s).sLo = s.sLo := rfl
@[simp] theorem clearOut_sHi (s : State) : (clearOut s).sHi = s.sHi := rfl
@[simp] theorem clearOut_slots (s : State) : (clearOut s).slots = s.slots := rfl
@[simp] theorem clearOut_vram (s : State) : (clearOut s).vram = s.vram := rfl
@[simp] theorem clearOut_oam (s : State) : (clearOut s).oam = s.oam := rfl
@[simp] theorem clearOut_fb (s : State) : (clearOut s).fb = s.fb := rfl
@[simp] theorem clearOut_refused (s : State) : (clearOut s).refused = s.refused := rfl
@[simp] theorem clearOut_faulted (s : State) : (clearOut s).faulted = s.faulted := rfl
@[simp] theorem clearOut_requests (s : State) : (clearOut s).requests = s.requests := rfl
@[simp] theorem clearOut_out (s : State) : (clearOut s).out = Output.silent := rfl

@[simp] theorem answer_lcdc (d : Byte) (s : State) : (answer d s).lcdc = s.lcdc := rfl
@[simp] theorem answer_statEn (d : Byte) (s : State) : (answer d s).statEn = s.statEn := rfl
@[simp] theorem answer_scy (d : Byte) (s : State) : (answer d s).scy = s.scy := rfl
@[simp] theorem answer_scx (d : Byte) (s : State) : (answer d s).scx = s.scx := rfl
@[simp] theorem answer_ly (d : Byte) (s : State) : (answer d s).ly = s.ly := rfl
@[simp] theorem answer_lyc (d : Byte) (s : State) : (answer d s).lyc = s.lyc := rfl
@[simp] theorem answer_bgp (d : Byte) (s : State) : (answer d s).bgp = s.bgp := rfl
@[simp] theorem answer_obp0 (d : Byte) (s : State) : (answer d s).obp0 = s.obp0 := rfl
@[simp] theorem answer_obp1 (d : Byte) (s : State) : (answer d s).obp1 = s.obp1 := rfl
@[simp] theorem answer_wy (d : Byte) (s : State) : (answer d s).wy = s.wy := rfl
@[simp] theorem answer_wx (d : Byte) (s : State) : (answer d s).wx = s.wx := rfl
@[simp] theorem answer_mode (d : Byte) (s : State) : (answer d s).mode = s.mode := rfl
@[simp] theorem answer_dot (d : Byte) (s : State) : (answer d s).dot = s.dot := rfl
@[simp] theorem answer_coin (d : Byte) (s : State) : (answer d s).coin = s.coin := rfl
@[simp] theorem answer_wlc (d : Byte) (s : State) : (answer d s).wlc = s.wlc := rfl
@[simp] theorem answer_winDrawn (d : Byte) (s : State) : (answer d s).winDrawn = s.winDrawn := rfl
@[simp] theorem answer_winLine (d : Byte) (s : State) : (answer d s).winLine = s.winLine := rfl
@[simp] theorem answer_winMode (d : Byte) (s : State) : (answer d s).winMode = s.winMode := rfl
@[simp] theorem answer_queue (d : Byte) (s : State) : (answer d s).queue = s.queue := rfl
@[simp] theorem answer_head (d : Byte) (s : State) : (answer d s).head = s.head := rfl
@[simp] theorem answer_fphase (d : Byte) (s : State) : (answer d s).fphase = s.fphase := rfl
@[simp] theorem answer_fsub (d : Byte) (s : State) : (answer d s).fsub = s.fsub := rfl
@[simp] theorem answer_savedPhase (d : Byte) (s : State) : (answer d s).savedPhase = s.savedPhase := rfl
@[simp] theorem answer_bgTile (d : Byte) (s : State) : (answer d s).bgTile = s.bgTile := rfl
@[simp] theorem answer_winTile (d : Byte) (s : State) : (answer d s).winTile = s.winTile := rfl
@[simp] theorem answer_tileLatch (d : Byte) (s : State) : (answer d s).tileLatch = s.tileLatch := rfl
@[simp] theorem answer_loLatch (d : Byte) (s : State) : (answer d s).loLatch = s.loLatch := rfl
@[simp] theorem answer_hiLatch (d : Byte) (s : State) : (answer d s).hiLatch = s.hiLatch := rfl
@[simp] theorem answer_bgLo (d : Byte) (s : State) : (answer d s).bgLo = s.bgLo := rfl
@[simp] theorem answer_bgHi (d : Byte) (s : State) : (answer d s).bgHi = s.bgHi := rfl
@[simp] theorem answer_bgCount (d : Byte) (s : State) : (answer d s).bgCount = s.bgCount := rfl
@[simp] theorem answer_discard (d : Byte) (s : State) : (answer d s).discard = s.discard := rfl
@[simp] theorem answer_cursor (d : Byte) (s : State) : (answer d s).cursor = s.cursor := rfl
@[simp] theorem answer_sactive (d : Byte) (s : State) : (answer d s).sactive = s.sactive := rfl
@[simp] theorem answer_sphase (d : Byte) (s : State) : (answer d s).sphase = s.sphase := rfl
@[simp] theorem answer_ssub (d : Byte) (s : State) : (answer d s).ssub = s.ssub := rfl
@[simp] theorem answer_saddr (d : Byte) (s : State) : (answer d s).saddr = s.saddr := rfl
@[simp] theorem answer_sLo (d : Byte) (s : State) : (answer d s).sLo = s.sLo := rfl
@[simp] theorem answer_sHi (d : Byte) (s : State) : (answer d s).sHi = s.sHi := rfl
@[simp] theorem answer_slots (d : Byte) (s : State) : (answer d s).slots = s.slots := rfl
@[simp] theorem answer_vram (d : Byte) (s : State) : (answer d s).vram = s.vram := rfl
@[simp] theorem answer_oam (d : Byte) (s : State) : (answer d s).oam = s.oam := rfl
@[simp] theorem answer_fb (d : Byte) (s : State) : (answer d s).fb = s.fb := rfl
@[simp] theorem answer_refused (d : Byte) (s : State) : (answer d s).refused = s.refused := rfl
@[simp] theorem answer_faulted (d : Byte) (s : State) : (answer d s).faulted = s.faulted := rfl
@[simp] theorem answer_requests (d : Byte) (s : State) : (answer d s).requests = s.requests := rfl
@[simp] theorem answer_out (d : Byte) (s : State) : (answer d s).out = { Output.silent with data := some d } := rfl

@[simp] theorem requestVblank_lcdc (s : State) : (requestVblank s).lcdc = s.lcdc := rfl
@[simp] theorem requestVblank_statEn (s : State) : (requestVblank s).statEn = s.statEn := rfl
@[simp] theorem requestVblank_scy (s : State) : (requestVblank s).scy = s.scy := rfl
@[simp] theorem requestVblank_scx (s : State) : (requestVblank s).scx = s.scx := rfl
@[simp] theorem requestVblank_ly (s : State) : (requestVblank s).ly = s.ly := rfl
@[simp] theorem requestVblank_lyc (s : State) : (requestVblank s).lyc = s.lyc := rfl
@[simp] theorem requestVblank_bgp (s : State) : (requestVblank s).bgp = s.bgp := rfl
@[simp] theorem requestVblank_obp0 (s : State) : (requestVblank s).obp0 = s.obp0 := rfl
@[simp] theorem requestVblank_obp1 (s : State) : (requestVblank s).obp1 = s.obp1 := rfl
@[simp] theorem requestVblank_wy (s : State) : (requestVblank s).wy = s.wy := rfl
@[simp] theorem requestVblank_wx (s : State) : (requestVblank s).wx = s.wx := rfl
@[simp] theorem requestVblank_mode (s : State) : (requestVblank s).mode = s.mode := rfl
@[simp] theorem requestVblank_dot (s : State) : (requestVblank s).dot = s.dot := rfl
@[simp] theorem requestVblank_coin (s : State) : (requestVblank s).coin = s.coin := rfl
@[simp] theorem requestVblank_wlc (s : State) : (requestVblank s).wlc = s.wlc := rfl
@[simp] theorem requestVblank_winDrawn (s : State) : (requestVblank s).winDrawn = s.winDrawn := rfl
@[simp] theorem requestVblank_winLine (s : State) : (requestVblank s).winLine = s.winLine := rfl
@[simp] theorem requestVblank_winMode (s : State) : (requestVblank s).winMode = s.winMode := rfl
@[simp] theorem requestVblank_queue (s : State) : (requestVblank s).queue = s.queue := rfl
@[simp] theorem requestVblank_head (s : State) : (requestVblank s).head = s.head := rfl
@[simp] theorem requestVblank_fphase (s : State) : (requestVblank s).fphase = s.fphase := rfl
@[simp] theorem requestVblank_fsub (s : State) : (requestVblank s).fsub = s.fsub := rfl
@[simp] theorem requestVblank_savedPhase (s : State) : (requestVblank s).savedPhase = s.savedPhase := rfl
@[simp] theorem requestVblank_bgTile (s : State) : (requestVblank s).bgTile = s.bgTile := rfl
@[simp] theorem requestVblank_winTile (s : State) : (requestVblank s).winTile = s.winTile := rfl
@[simp] theorem requestVblank_tileLatch (s : State) : (requestVblank s).tileLatch = s.tileLatch := rfl
@[simp] theorem requestVblank_loLatch (s : State) : (requestVblank s).loLatch = s.loLatch := rfl
@[simp] theorem requestVblank_hiLatch (s : State) : (requestVblank s).hiLatch = s.hiLatch := rfl
@[simp] theorem requestVblank_bgLo (s : State) : (requestVblank s).bgLo = s.bgLo := rfl
@[simp] theorem requestVblank_bgHi (s : State) : (requestVblank s).bgHi = s.bgHi := rfl
@[simp] theorem requestVblank_bgCount (s : State) : (requestVblank s).bgCount = s.bgCount := rfl
@[simp] theorem requestVblank_discard (s : State) : (requestVblank s).discard = s.discard := rfl
@[simp] theorem requestVblank_cursor (s : State) : (requestVblank s).cursor = s.cursor := rfl
@[simp] theorem requestVblank_sactive (s : State) : (requestVblank s).sactive = s.sactive := rfl
@[simp] theorem requestVblank_sphase (s : State) : (requestVblank s).sphase = s.sphase := rfl
@[simp] theorem requestVblank_ssub (s : State) : (requestVblank s).ssub = s.ssub := rfl
@[simp] theorem requestVblank_saddr (s : State) : (requestVblank s).saddr = s.saddr := rfl
@[simp] theorem requestVblank_sLo (s : State) : (requestVblank s).sLo = s.sLo := rfl
@[simp] theorem requestVblank_sHi (s : State) : (requestVblank s).sHi = s.sHi := rfl
@[simp] theorem requestVblank_slots (s : State) : (requestVblank s).slots = s.slots := rfl
@[simp] theorem requestVblank_vram (s : State) : (requestVblank s).vram = s.vram := rfl
@[simp] theorem requestVblank_oam (s : State) : (requestVblank s).oam = s.oam := rfl
@[simp] theorem requestVblank_fb (s : State) : (requestVblank s).fb = s.fb := rfl
@[simp] theorem requestVblank_refused (s : State) : (requestVblank s).refused = s.refused := rfl
@[simp] theorem requestVblank_faulted (s : State) : (requestVblank s).faulted = s.faulted := rfl
@[simp] theorem requestVblank_requests (s : State) : (requestVblank s).requests = s.requests := rfl
@[simp] theorem requestVblank_out (s : State) : (requestVblank s).out = { s.out with vblank := true } := rfl

@[simp] theorem requestStatIf_lcdc (c : Bool) (s : State) : (requestStatIf c s).lcdc = s.lcdc := rfl
@[simp] theorem requestStatIf_statEn (c : Bool) (s : State) : (requestStatIf c s).statEn = s.statEn := rfl
@[simp] theorem requestStatIf_scy (c : Bool) (s : State) : (requestStatIf c s).scy = s.scy := rfl
@[simp] theorem requestStatIf_scx (c : Bool) (s : State) : (requestStatIf c s).scx = s.scx := rfl
@[simp] theorem requestStatIf_ly (c : Bool) (s : State) : (requestStatIf c s).ly = s.ly := rfl
@[simp] theorem requestStatIf_lyc (c : Bool) (s : State) : (requestStatIf c s).lyc = s.lyc := rfl
@[simp] theorem requestStatIf_bgp (c : Bool) (s : State) : (requestStatIf c s).bgp = s.bgp := rfl
@[simp] theorem requestStatIf_obp0 (c : Bool) (s : State) : (requestStatIf c s).obp0 = s.obp0 := rfl
@[simp] theorem requestStatIf_obp1 (c : Bool) (s : State) : (requestStatIf c s).obp1 = s.obp1 := rfl
@[simp] theorem requestStatIf_wy (c : Bool) (s : State) : (requestStatIf c s).wy = s.wy := rfl
@[simp] theorem requestStatIf_wx (c : Bool) (s : State) : (requestStatIf c s).wx = s.wx := rfl
@[simp] theorem requestStatIf_mode (c : Bool) (s : State) : (requestStatIf c s).mode = s.mode := rfl
@[simp] theorem requestStatIf_dot (c : Bool) (s : State) : (requestStatIf c s).dot = s.dot := rfl
@[simp] theorem requestStatIf_coin (c : Bool) (s : State) : (requestStatIf c s).coin = s.coin := rfl
@[simp] theorem requestStatIf_wlc (c : Bool) (s : State) : (requestStatIf c s).wlc = s.wlc := rfl
@[simp] theorem requestStatIf_winDrawn (c : Bool) (s : State) : (requestStatIf c s).winDrawn = s.winDrawn := rfl
@[simp] theorem requestStatIf_winLine (c : Bool) (s : State) : (requestStatIf c s).winLine = s.winLine := rfl
@[simp] theorem requestStatIf_winMode (c : Bool) (s : State) : (requestStatIf c s).winMode = s.winMode := rfl
@[simp] theorem requestStatIf_queue (c : Bool) (s : State) : (requestStatIf c s).queue = s.queue := rfl
@[simp] theorem requestStatIf_head (c : Bool) (s : State) : (requestStatIf c s).head = s.head := rfl
@[simp] theorem requestStatIf_fphase (c : Bool) (s : State) : (requestStatIf c s).fphase = s.fphase := rfl
@[simp] theorem requestStatIf_fsub (c : Bool) (s : State) : (requestStatIf c s).fsub = s.fsub := rfl
@[simp] theorem requestStatIf_savedPhase (c : Bool) (s : State) : (requestStatIf c s).savedPhase = s.savedPhase := rfl
@[simp] theorem requestStatIf_bgTile (c : Bool) (s : State) : (requestStatIf c s).bgTile = s.bgTile := rfl
@[simp] theorem requestStatIf_winTile (c : Bool) (s : State) : (requestStatIf c s).winTile = s.winTile := rfl
@[simp] theorem requestStatIf_tileLatch (c : Bool) (s : State) : (requestStatIf c s).tileLatch = s.tileLatch := rfl
@[simp] theorem requestStatIf_loLatch (c : Bool) (s : State) : (requestStatIf c s).loLatch = s.loLatch := rfl
@[simp] theorem requestStatIf_hiLatch (c : Bool) (s : State) : (requestStatIf c s).hiLatch = s.hiLatch := rfl
@[simp] theorem requestStatIf_bgLo (c : Bool) (s : State) : (requestStatIf c s).bgLo = s.bgLo := rfl
@[simp] theorem requestStatIf_bgHi (c : Bool) (s : State) : (requestStatIf c s).bgHi = s.bgHi := rfl
@[simp] theorem requestStatIf_bgCount (c : Bool) (s : State) : (requestStatIf c s).bgCount = s.bgCount := rfl
@[simp] theorem requestStatIf_discard (c : Bool) (s : State) : (requestStatIf c s).discard = s.discard := rfl
@[simp] theorem requestStatIf_cursor (c : Bool) (s : State) : (requestStatIf c s).cursor = s.cursor := rfl
@[simp] theorem requestStatIf_sactive (c : Bool) (s : State) : (requestStatIf c s).sactive = s.sactive := rfl
@[simp] theorem requestStatIf_sphase (c : Bool) (s : State) : (requestStatIf c s).sphase = s.sphase := rfl
@[simp] theorem requestStatIf_ssub (c : Bool) (s : State) : (requestStatIf c s).ssub = s.ssub := rfl
@[simp] theorem requestStatIf_saddr (c : Bool) (s : State) : (requestStatIf c s).saddr = s.saddr := rfl
@[simp] theorem requestStatIf_sLo (c : Bool) (s : State) : (requestStatIf c s).sLo = s.sLo := rfl
@[simp] theorem requestStatIf_sHi (c : Bool) (s : State) : (requestStatIf c s).sHi = s.sHi := rfl
@[simp] theorem requestStatIf_slots (c : Bool) (s : State) : (requestStatIf c s).slots = s.slots := rfl
@[simp] theorem requestStatIf_vram (c : Bool) (s : State) : (requestStatIf c s).vram = s.vram := rfl
@[simp] theorem requestStatIf_oam (c : Bool) (s : State) : (requestStatIf c s).oam = s.oam := rfl
@[simp] theorem requestStatIf_fb (c : Bool) (s : State) : (requestStatIf c s).fb = s.fb := rfl
@[simp] theorem requestStatIf_refused (c : Bool) (s : State) : (requestStatIf c s).refused = s.refused := rfl
@[simp] theorem requestStatIf_faulted (c : Bool) (s : State) : (requestStatIf c s).faulted = s.faulted := rfl
@[simp] theorem requestStatIf_requests (c : Bool) (s : State) : (requestStatIf c s).requests = s.requests := rfl
@[simp] theorem requestStatIf_out (c : Bool) (s : State) : (requestStatIf c s).out = { s.out with stat := s.out.stat || c } := rfl

@[simp] theorem presentFrame_lcdc (s : State) : (presentFrame s).lcdc = s.lcdc := rfl
@[simp] theorem presentFrame_statEn (s : State) : (presentFrame s).statEn = s.statEn := rfl
@[simp] theorem presentFrame_scy (s : State) : (presentFrame s).scy = s.scy := rfl
@[simp] theorem presentFrame_scx (s : State) : (presentFrame s).scx = s.scx := rfl
@[simp] theorem presentFrame_ly (s : State) : (presentFrame s).ly = s.ly := rfl
@[simp] theorem presentFrame_lyc (s : State) : (presentFrame s).lyc = s.lyc := rfl
@[simp] theorem presentFrame_bgp (s : State) : (presentFrame s).bgp = s.bgp := rfl
@[simp] theorem presentFrame_obp0 (s : State) : (presentFrame s).obp0 = s.obp0 := rfl
@[simp] theorem presentFrame_obp1 (s : State) : (presentFrame s).obp1 = s.obp1 := rfl
@[simp] theorem presentFrame_wy (s : State) : (presentFrame s).wy = s.wy := rfl
@[simp] theorem presentFrame_wx (s : State) : (presentFrame s).wx = s.wx := rfl
@[simp] theorem presentFrame_mode (s : State) : (presentFrame s).mode = s.mode := rfl
@[simp] theorem presentFrame_dot (s : State) : (presentFrame s).dot = s.dot := rfl
@[simp] theorem presentFrame_coin (s : State) : (presentFrame s).coin = s.coin := rfl
@[simp] theorem presentFrame_wlc (s : State) : (presentFrame s).wlc = s.wlc := rfl
@[simp] theorem presentFrame_winDrawn (s : State) : (presentFrame s).winDrawn = s.winDrawn := rfl
@[simp] theorem presentFrame_winLine (s : State) : (presentFrame s).winLine = s.winLine := rfl
@[simp] theorem presentFrame_winMode (s : State) : (presentFrame s).winMode = s.winMode := rfl
@[simp] theorem presentFrame_queue (s : State) : (presentFrame s).queue = s.queue := rfl
@[simp] theorem presentFrame_head (s : State) : (presentFrame s).head = s.head := rfl
@[simp] theorem presentFrame_fphase (s : State) : (presentFrame s).fphase = s.fphase := rfl
@[simp] theorem presentFrame_fsub (s : State) : (presentFrame s).fsub = s.fsub := rfl
@[simp] theorem presentFrame_savedPhase (s : State) : (presentFrame s).savedPhase = s.savedPhase := rfl
@[simp] theorem presentFrame_bgTile (s : State) : (presentFrame s).bgTile = s.bgTile := rfl
@[simp] theorem presentFrame_winTile (s : State) : (presentFrame s).winTile = s.winTile := rfl
@[simp] theorem presentFrame_tileLatch (s : State) : (presentFrame s).tileLatch = s.tileLatch := rfl
@[simp] theorem presentFrame_loLatch (s : State) : (presentFrame s).loLatch = s.loLatch := rfl
@[simp] theorem presentFrame_hiLatch (s : State) : (presentFrame s).hiLatch = s.hiLatch := rfl
@[simp] theorem presentFrame_bgLo (s : State) : (presentFrame s).bgLo = s.bgLo := rfl
@[simp] theorem presentFrame_bgHi (s : State) : (presentFrame s).bgHi = s.bgHi := rfl
@[simp] theorem presentFrame_bgCount (s : State) : (presentFrame s).bgCount = s.bgCount := rfl
@[simp] theorem presentFrame_discard (s : State) : (presentFrame s).discard = s.discard := rfl
@[simp] theorem presentFrame_cursor (s : State) : (presentFrame s).cursor = s.cursor := rfl
@[simp] theorem presentFrame_sactive (s : State) : (presentFrame s).sactive = s.sactive := rfl
@[simp] theorem presentFrame_sphase (s : State) : (presentFrame s).sphase = s.sphase := rfl
@[simp] theorem presentFrame_ssub (s : State) : (presentFrame s).ssub = s.ssub := rfl
@[simp] theorem presentFrame_saddr (s : State) : (presentFrame s).saddr = s.saddr := rfl
@[simp] theorem presentFrame_sLo (s : State) : (presentFrame s).sLo = s.sLo := rfl
@[simp] theorem presentFrame_sHi (s : State) : (presentFrame s).sHi = s.sHi := rfl
@[simp] theorem presentFrame_slots (s : State) : (presentFrame s).slots = s.slots := rfl
@[simp] theorem presentFrame_vram (s : State) : (presentFrame s).vram = s.vram := rfl
@[simp] theorem presentFrame_oam (s : State) : (presentFrame s).oam = s.oam := rfl
@[simp] theorem presentFrame_fb (s : State) : (presentFrame s).fb = s.fb := rfl
@[simp] theorem presentFrame_refused (s : State) : (presentFrame s).refused = s.refused := rfl
@[simp] theorem presentFrame_faulted (s : State) : (presentFrame s).faulted = s.faulted := rfl
@[simp] theorem presentFrame_requests (s : State) : (presentFrame s).requests = s.requests := rfl
@[simp] theorem presentFrame_out (s : State) : (presentFrame s).out = { s.out with present := some s.fb } := rfl

@[simp] theorem refuseRequest_lcdc (s : State) : (refuseRequest s).lcdc = s.lcdc := rfl
@[simp] theorem refuseRequest_statEn (s : State) : (refuseRequest s).statEn = s.statEn := rfl
@[simp] theorem refuseRequest_scy (s : State) : (refuseRequest s).scy = s.scy := rfl
@[simp] theorem refuseRequest_scx (s : State) : (refuseRequest s).scx = s.scx := rfl
@[simp] theorem refuseRequest_ly (s : State) : (refuseRequest s).ly = s.ly := rfl
@[simp] theorem refuseRequest_lyc (s : State) : (refuseRequest s).lyc = s.lyc := rfl
@[simp] theorem refuseRequest_bgp (s : State) : (refuseRequest s).bgp = s.bgp := rfl
@[simp] theorem refuseRequest_obp0 (s : State) : (refuseRequest s).obp0 = s.obp0 := rfl
@[simp] theorem refuseRequest_obp1 (s : State) : (refuseRequest s).obp1 = s.obp1 := rfl
@[simp] theorem refuseRequest_wy (s : State) : (refuseRequest s).wy = s.wy := rfl
@[simp] theorem refuseRequest_wx (s : State) : (refuseRequest s).wx = s.wx := rfl
@[simp] theorem refuseRequest_mode (s : State) : (refuseRequest s).mode = s.mode := rfl
@[simp] theorem refuseRequest_dot (s : State) : (refuseRequest s).dot = s.dot := rfl
@[simp] theorem refuseRequest_coin (s : State) : (refuseRequest s).coin = s.coin := rfl
@[simp] theorem refuseRequest_wlc (s : State) : (refuseRequest s).wlc = s.wlc := rfl
@[simp] theorem refuseRequest_winDrawn (s : State) : (refuseRequest s).winDrawn = s.winDrawn := rfl
@[simp] theorem refuseRequest_winLine (s : State) : (refuseRequest s).winLine = s.winLine := rfl
@[simp] theorem refuseRequest_winMode (s : State) : (refuseRequest s).winMode = s.winMode := rfl
@[simp] theorem refuseRequest_queue (s : State) : (refuseRequest s).queue = s.queue := rfl
@[simp] theorem refuseRequest_head (s : State) : (refuseRequest s).head = s.head := rfl
@[simp] theorem refuseRequest_fphase (s : State) : (refuseRequest s).fphase = s.fphase := rfl
@[simp] theorem refuseRequest_fsub (s : State) : (refuseRequest s).fsub = s.fsub := rfl
@[simp] theorem refuseRequest_savedPhase (s : State) : (refuseRequest s).savedPhase = s.savedPhase := rfl
@[simp] theorem refuseRequest_bgTile (s : State) : (refuseRequest s).bgTile = s.bgTile := rfl
@[simp] theorem refuseRequest_winTile (s : State) : (refuseRequest s).winTile = s.winTile := rfl
@[simp] theorem refuseRequest_tileLatch (s : State) : (refuseRequest s).tileLatch = s.tileLatch := rfl
@[simp] theorem refuseRequest_loLatch (s : State) : (refuseRequest s).loLatch = s.loLatch := rfl
@[simp] theorem refuseRequest_hiLatch (s : State) : (refuseRequest s).hiLatch = s.hiLatch := rfl
@[simp] theorem refuseRequest_bgLo (s : State) : (refuseRequest s).bgLo = s.bgLo := rfl
@[simp] theorem refuseRequest_bgHi (s : State) : (refuseRequest s).bgHi = s.bgHi := rfl
@[simp] theorem refuseRequest_bgCount (s : State) : (refuseRequest s).bgCount = s.bgCount := rfl
@[simp] theorem refuseRequest_discard (s : State) : (refuseRequest s).discard = s.discard := rfl
@[simp] theorem refuseRequest_cursor (s : State) : (refuseRequest s).cursor = s.cursor := rfl
@[simp] theorem refuseRequest_sactive (s : State) : (refuseRequest s).sactive = s.sactive := rfl
@[simp] theorem refuseRequest_sphase (s : State) : (refuseRequest s).sphase = s.sphase := rfl
@[simp] theorem refuseRequest_ssub (s : State) : (refuseRequest s).ssub = s.ssub := rfl
@[simp] theorem refuseRequest_saddr (s : State) : (refuseRequest s).saddr = s.saddr := rfl
@[simp] theorem refuseRequest_sLo (s : State) : (refuseRequest s).sLo = s.sLo := rfl
@[simp] theorem refuseRequest_sHi (s : State) : (refuseRequest s).sHi = s.sHi := rfl
@[simp] theorem refuseRequest_slots (s : State) : (refuseRequest s).slots = s.slots := rfl
@[simp] theorem refuseRequest_vram (s : State) : (refuseRequest s).vram = s.vram := rfl
@[simp] theorem refuseRequest_oam (s : State) : (refuseRequest s).oam = s.oam := rfl
@[simp] theorem refuseRequest_fb (s : State) : (refuseRequest s).fb = s.fb := rfl
@[simp] theorem refuseRequest_refused (s : State) : (refuseRequest s).refused = true := rfl
@[simp] theorem refuseRequest_faulted (s : State) : (refuseRequest s).faulted = s.faulted := rfl
@[simp] theorem refuseRequest_requests (s : State) : (refuseRequest s).requests = s.requests := rfl
@[simp] theorem refuseRequest_out (s : State) : (refuseRequest s).out = Output.silent := rfl

@[simp] theorem markFaulted_lcdc (s : State) : (markFaulted s).lcdc = s.lcdc := rfl
@[simp] theorem markFaulted_statEn (s : State) : (markFaulted s).statEn = s.statEn := rfl
@[simp] theorem markFaulted_scy (s : State) : (markFaulted s).scy = s.scy := rfl
@[simp] theorem markFaulted_scx (s : State) : (markFaulted s).scx = s.scx := rfl
@[simp] theorem markFaulted_ly (s : State) : (markFaulted s).ly = s.ly := rfl
@[simp] theorem markFaulted_lyc (s : State) : (markFaulted s).lyc = s.lyc := rfl
@[simp] theorem markFaulted_bgp (s : State) : (markFaulted s).bgp = s.bgp := rfl
@[simp] theorem markFaulted_obp0 (s : State) : (markFaulted s).obp0 = s.obp0 := rfl
@[simp] theorem markFaulted_obp1 (s : State) : (markFaulted s).obp1 = s.obp1 := rfl
@[simp] theorem markFaulted_wy (s : State) : (markFaulted s).wy = s.wy := rfl
@[simp] theorem markFaulted_wx (s : State) : (markFaulted s).wx = s.wx := rfl
@[simp] theorem markFaulted_mode (s : State) : (markFaulted s).mode = s.mode := rfl
@[simp] theorem markFaulted_dot (s : State) : (markFaulted s).dot = s.dot := rfl
@[simp] theorem markFaulted_coin (s : State) : (markFaulted s).coin = s.coin := rfl
@[simp] theorem markFaulted_wlc (s : State) : (markFaulted s).wlc = s.wlc := rfl
@[simp] theorem markFaulted_winDrawn (s : State) : (markFaulted s).winDrawn = s.winDrawn := rfl
@[simp] theorem markFaulted_winLine (s : State) : (markFaulted s).winLine = s.winLine := rfl
@[simp] theorem markFaulted_winMode (s : State) : (markFaulted s).winMode = s.winMode := rfl
@[simp] theorem markFaulted_queue (s : State) : (markFaulted s).queue = s.queue := rfl
@[simp] theorem markFaulted_head (s : State) : (markFaulted s).head = s.head := rfl
@[simp] theorem markFaulted_fphase (s : State) : (markFaulted s).fphase = s.fphase := rfl
@[simp] theorem markFaulted_fsub (s : State) : (markFaulted s).fsub = s.fsub := rfl
@[simp] theorem markFaulted_savedPhase (s : State) : (markFaulted s).savedPhase = s.savedPhase := rfl
@[simp] theorem markFaulted_bgTile (s : State) : (markFaulted s).bgTile = s.bgTile := rfl
@[simp] theorem markFaulted_winTile (s : State) : (markFaulted s).winTile = s.winTile := rfl
@[simp] theorem markFaulted_tileLatch (s : State) : (markFaulted s).tileLatch = s.tileLatch := rfl
@[simp] theorem markFaulted_loLatch (s : State) : (markFaulted s).loLatch = s.loLatch := rfl
@[simp] theorem markFaulted_hiLatch (s : State) : (markFaulted s).hiLatch = s.hiLatch := rfl
@[simp] theorem markFaulted_bgLo (s : State) : (markFaulted s).bgLo = s.bgLo := rfl
@[simp] theorem markFaulted_bgHi (s : State) : (markFaulted s).bgHi = s.bgHi := rfl
@[simp] theorem markFaulted_bgCount (s : State) : (markFaulted s).bgCount = s.bgCount := rfl
@[simp] theorem markFaulted_discard (s : State) : (markFaulted s).discard = s.discard := rfl
@[simp] theorem markFaulted_cursor (s : State) : (markFaulted s).cursor = s.cursor := rfl
@[simp] theorem markFaulted_sactive (s : State) : (markFaulted s).sactive = s.sactive := rfl
@[simp] theorem markFaulted_sphase (s : State) : (markFaulted s).sphase = s.sphase := rfl
@[simp] theorem markFaulted_ssub (s : State) : (markFaulted s).ssub = s.ssub := rfl
@[simp] theorem markFaulted_saddr (s : State) : (markFaulted s).saddr = s.saddr := rfl
@[simp] theorem markFaulted_sLo (s : State) : (markFaulted s).sLo = s.sLo := rfl
@[simp] theorem markFaulted_sHi (s : State) : (markFaulted s).sHi = s.sHi := rfl
@[simp] theorem markFaulted_slots (s : State) : (markFaulted s).slots = s.slots := rfl
@[simp] theorem markFaulted_vram (s : State) : (markFaulted s).vram = s.vram := rfl
@[simp] theorem markFaulted_oam (s : State) : (markFaulted s).oam = s.oam := rfl
@[simp] theorem markFaulted_fb (s : State) : (markFaulted s).fb = s.fb := rfl
@[simp] theorem markFaulted_refused (s : State) : (markFaulted s).refused = s.refused := rfl
@[simp] theorem markFaulted_faulted (s : State) : (markFaulted s).faulted = true := rfl
@[simp] theorem markFaulted_requests (s : State) : (markFaulted s).requests = s.requests := rfl
@[simp] theorem markFaulted_out (s : State) : (markFaulted s).out = s.out := rfl

@[simp] theorem takeRequest_lcdc (rest : List Request) (s : State) : (takeRequest rest s).lcdc = s.lcdc := rfl
@[simp] theorem takeRequest_statEn (rest : List Request) (s : State) : (takeRequest rest s).statEn = s.statEn := rfl
@[simp] theorem takeRequest_scy (rest : List Request) (s : State) : (takeRequest rest s).scy = s.scy := rfl
@[simp] theorem takeRequest_scx (rest : List Request) (s : State) : (takeRequest rest s).scx = s.scx := rfl
@[simp] theorem takeRequest_ly (rest : List Request) (s : State) : (takeRequest rest s).ly = s.ly := rfl
@[simp] theorem takeRequest_lyc (rest : List Request) (s : State) : (takeRequest rest s).lyc = s.lyc := rfl
@[simp] theorem takeRequest_bgp (rest : List Request) (s : State) : (takeRequest rest s).bgp = s.bgp := rfl
@[simp] theorem takeRequest_obp0 (rest : List Request) (s : State) : (takeRequest rest s).obp0 = s.obp0 := rfl
@[simp] theorem takeRequest_obp1 (rest : List Request) (s : State) : (takeRequest rest s).obp1 = s.obp1 := rfl
@[simp] theorem takeRequest_wy (rest : List Request) (s : State) : (takeRequest rest s).wy = s.wy := rfl
@[simp] theorem takeRequest_wx (rest : List Request) (s : State) : (takeRequest rest s).wx = s.wx := rfl
@[simp] theorem takeRequest_mode (rest : List Request) (s : State) : (takeRequest rest s).mode = s.mode := rfl
@[simp] theorem takeRequest_dot (rest : List Request) (s : State) : (takeRequest rest s).dot = s.dot := rfl
@[simp] theorem takeRequest_coin (rest : List Request) (s : State) : (takeRequest rest s).coin = s.coin := rfl
@[simp] theorem takeRequest_wlc (rest : List Request) (s : State) : (takeRequest rest s).wlc = s.wlc := rfl
@[simp] theorem takeRequest_winDrawn (rest : List Request) (s : State) : (takeRequest rest s).winDrawn = s.winDrawn := rfl
@[simp] theorem takeRequest_winLine (rest : List Request) (s : State) : (takeRequest rest s).winLine = s.winLine := rfl
@[simp] theorem takeRequest_winMode (rest : List Request) (s : State) : (takeRequest rest s).winMode = s.winMode := rfl
@[simp] theorem takeRequest_queue (rest : List Request) (s : State) : (takeRequest rest s).queue = s.queue := rfl
@[simp] theorem takeRequest_head (rest : List Request) (s : State) : (takeRequest rest s).head = s.head := rfl
@[simp] theorem takeRequest_fphase (rest : List Request) (s : State) : (takeRequest rest s).fphase = s.fphase := rfl
@[simp] theorem takeRequest_fsub (rest : List Request) (s : State) : (takeRequest rest s).fsub = s.fsub := rfl
@[simp] theorem takeRequest_savedPhase (rest : List Request) (s : State) : (takeRequest rest s).savedPhase = s.savedPhase := rfl
@[simp] theorem takeRequest_bgTile (rest : List Request) (s : State) : (takeRequest rest s).bgTile = s.bgTile := rfl
@[simp] theorem takeRequest_winTile (rest : List Request) (s : State) : (takeRequest rest s).winTile = s.winTile := rfl
@[simp] theorem takeRequest_tileLatch (rest : List Request) (s : State) : (takeRequest rest s).tileLatch = s.tileLatch := rfl
@[simp] theorem takeRequest_loLatch (rest : List Request) (s : State) : (takeRequest rest s).loLatch = s.loLatch := rfl
@[simp] theorem takeRequest_hiLatch (rest : List Request) (s : State) : (takeRequest rest s).hiLatch = s.hiLatch := rfl
@[simp] theorem takeRequest_bgLo (rest : List Request) (s : State) : (takeRequest rest s).bgLo = s.bgLo := rfl
@[simp] theorem takeRequest_bgHi (rest : List Request) (s : State) : (takeRequest rest s).bgHi = s.bgHi := rfl
@[simp] theorem takeRequest_bgCount (rest : List Request) (s : State) : (takeRequest rest s).bgCount = s.bgCount := rfl
@[simp] theorem takeRequest_discard (rest : List Request) (s : State) : (takeRequest rest s).discard = s.discard := rfl
@[simp] theorem takeRequest_cursor (rest : List Request) (s : State) : (takeRequest rest s).cursor = s.cursor := rfl
@[simp] theorem takeRequest_sactive (rest : List Request) (s : State) : (takeRequest rest s).sactive = s.sactive := rfl
@[simp] theorem takeRequest_sphase (rest : List Request) (s : State) : (takeRequest rest s).sphase = s.sphase := rfl
@[simp] theorem takeRequest_ssub (rest : List Request) (s : State) : (takeRequest rest s).ssub = s.ssub := rfl
@[simp] theorem takeRequest_saddr (rest : List Request) (s : State) : (takeRequest rest s).saddr = s.saddr := rfl
@[simp] theorem takeRequest_sLo (rest : List Request) (s : State) : (takeRequest rest s).sLo = s.sLo := rfl
@[simp] theorem takeRequest_sHi (rest : List Request) (s : State) : (takeRequest rest s).sHi = s.sHi := rfl
@[simp] theorem takeRequest_slots (rest : List Request) (s : State) : (takeRequest rest s).slots = s.slots := rfl
@[simp] theorem takeRequest_vram (rest : List Request) (s : State) : (takeRequest rest s).vram = s.vram := rfl
@[simp] theorem takeRequest_oam (rest : List Request) (s : State) : (takeRequest rest s).oam = s.oam := rfl
@[simp] theorem takeRequest_fb (rest : List Request) (s : State) : (takeRequest rest s).fb = s.fb := rfl
@[simp] theorem takeRequest_refused (rest : List Request) (s : State) : (takeRequest rest s).refused = s.refused := rfl
@[simp] theorem takeRequest_faulted (rest : List Request) (s : State) : (takeRequest rest s).faulted = s.faulted := rfl
@[simp] theorem takeRequest_requests (rest : List Request) (s : State) : (takeRequest rest s).requests = rest := rfl
@[simp] theorem takeRequest_out (rest : List Request) (s : State) : (takeRequest rest s).out = s.out := rfl

@[simp] theorem placeRequest_lcdc (r : Request) (s : State) : (placeRequest r s).lcdc = s.lcdc := rfl
@[simp] theorem placeRequest_statEn (r : Request) (s : State) : (placeRequest r s).statEn = s.statEn := rfl
@[simp] theorem placeRequest_scy (r : Request) (s : State) : (placeRequest r s).scy = s.scy := rfl
@[simp] theorem placeRequest_scx (r : Request) (s : State) : (placeRequest r s).scx = s.scx := rfl
@[simp] theorem placeRequest_ly (r : Request) (s : State) : (placeRequest r s).ly = s.ly := rfl
@[simp] theorem placeRequest_lyc (r : Request) (s : State) : (placeRequest r s).lyc = s.lyc := rfl
@[simp] theorem placeRequest_bgp (r : Request) (s : State) : (placeRequest r s).bgp = s.bgp := rfl
@[simp] theorem placeRequest_obp0 (r : Request) (s : State) : (placeRequest r s).obp0 = s.obp0 := rfl
@[simp] theorem placeRequest_obp1 (r : Request) (s : State) : (placeRequest r s).obp1 = s.obp1 := rfl
@[simp] theorem placeRequest_wy (r : Request) (s : State) : (placeRequest r s).wy = s.wy := rfl
@[simp] theorem placeRequest_wx (r : Request) (s : State) : (placeRequest r s).wx = s.wx := rfl
@[simp] theorem placeRequest_mode (r : Request) (s : State) : (placeRequest r s).mode = s.mode := rfl
@[simp] theorem placeRequest_dot (r : Request) (s : State) : (placeRequest r s).dot = s.dot := rfl
@[simp] theorem placeRequest_coin (r : Request) (s : State) : (placeRequest r s).coin = s.coin := rfl
@[simp] theorem placeRequest_wlc (r : Request) (s : State) : (placeRequest r s).wlc = s.wlc := rfl
@[simp] theorem placeRequest_winDrawn (r : Request) (s : State) : (placeRequest r s).winDrawn = s.winDrawn := rfl
@[simp] theorem placeRequest_winLine (r : Request) (s : State) : (placeRequest r s).winLine = s.winLine := rfl
@[simp] theorem placeRequest_winMode (r : Request) (s : State) : (placeRequest r s).winMode = s.winMode := rfl
@[simp] theorem placeRequest_queue (r : Request) (s : State) : (placeRequest r s).queue = s.queue := rfl
@[simp] theorem placeRequest_head (r : Request) (s : State) : (placeRequest r s).head = s.head := rfl
@[simp] theorem placeRequest_fphase (r : Request) (s : State) : (placeRequest r s).fphase = s.fphase := rfl
@[simp] theorem placeRequest_fsub (r : Request) (s : State) : (placeRequest r s).fsub = s.fsub := rfl
@[simp] theorem placeRequest_savedPhase (r : Request) (s : State) : (placeRequest r s).savedPhase = s.savedPhase := rfl
@[simp] theorem placeRequest_bgTile (r : Request) (s : State) : (placeRequest r s).bgTile = s.bgTile := rfl
@[simp] theorem placeRequest_winTile (r : Request) (s : State) : (placeRequest r s).winTile = s.winTile := rfl
@[simp] theorem placeRequest_tileLatch (r : Request) (s : State) : (placeRequest r s).tileLatch = s.tileLatch := rfl
@[simp] theorem placeRequest_loLatch (r : Request) (s : State) : (placeRequest r s).loLatch = s.loLatch := rfl
@[simp] theorem placeRequest_hiLatch (r : Request) (s : State) : (placeRequest r s).hiLatch = s.hiLatch := rfl
@[simp] theorem placeRequest_bgLo (r : Request) (s : State) : (placeRequest r s).bgLo = s.bgLo := rfl
@[simp] theorem placeRequest_bgHi (r : Request) (s : State) : (placeRequest r s).bgHi = s.bgHi := rfl
@[simp] theorem placeRequest_bgCount (r : Request) (s : State) : (placeRequest r s).bgCount = s.bgCount := rfl
@[simp] theorem placeRequest_discard (r : Request) (s : State) : (placeRequest r s).discard = s.discard := rfl
@[simp] theorem placeRequest_cursor (r : Request) (s : State) : (placeRequest r s).cursor = s.cursor := rfl
@[simp] theorem placeRequest_sactive (r : Request) (s : State) : (placeRequest r s).sactive = s.sactive := rfl
@[simp] theorem placeRequest_sphase (r : Request) (s : State) : (placeRequest r s).sphase = s.sphase := rfl
@[simp] theorem placeRequest_ssub (r : Request) (s : State) : (placeRequest r s).ssub = s.ssub := rfl
@[simp] theorem placeRequest_saddr (r : Request) (s : State) : (placeRequest r s).saddr = s.saddr := rfl
@[simp] theorem placeRequest_sLo (r : Request) (s : State) : (placeRequest r s).sLo = s.sLo := rfl
@[simp] theorem placeRequest_sHi (r : Request) (s : State) : (placeRequest r s).sHi = s.sHi := rfl
@[simp] theorem placeRequest_slots (r : Request) (s : State) : (placeRequest r s).slots = s.slots := rfl
@[simp] theorem placeRequest_vram (r : Request) (s : State) : (placeRequest r s).vram = s.vram := rfl
@[simp] theorem placeRequest_oam (r : Request) (s : State) : (placeRequest r s).oam = s.oam := rfl
@[simp] theorem placeRequest_fb (r : Request) (s : State) : (placeRequest r s).fb = s.fb := rfl
@[simp] theorem placeRequest_refused (r : Request) (s : State) : (placeRequest r s).refused = s.refused := rfl
@[simp] theorem placeRequest_faulted (r : Request) (s : State) : (placeRequest r s).faulted = s.faulted := rfl
@[simp] theorem placeRequest_requests (r : Request) (s : State) : (placeRequest r s).requests = r :: s.requests := rfl
@[simp] theorem placeRequest_out (r : Request) (s : State) : (placeRequest r s).out = s.out := rfl

@[simp] theorem storeVram_lcdc (a : Nat) (d : Byte) (s : State) : (storeVram a d s).lcdc = s.lcdc := rfl
@[simp] theorem storeVram_statEn (a : Nat) (d : Byte) (s : State) : (storeVram a d s).statEn = s.statEn := rfl
@[simp] theorem storeVram_scy (a : Nat) (d : Byte) (s : State) : (storeVram a d s).scy = s.scy := rfl
@[simp] theorem storeVram_scx (a : Nat) (d : Byte) (s : State) : (storeVram a d s).scx = s.scx := rfl
@[simp] theorem storeVram_ly (a : Nat) (d : Byte) (s : State) : (storeVram a d s).ly = s.ly := rfl
@[simp] theorem storeVram_lyc (a : Nat) (d : Byte) (s : State) : (storeVram a d s).lyc = s.lyc := rfl
@[simp] theorem storeVram_bgp (a : Nat) (d : Byte) (s : State) : (storeVram a d s).bgp = s.bgp := rfl
@[simp] theorem storeVram_obp0 (a : Nat) (d : Byte) (s : State) : (storeVram a d s).obp0 = s.obp0 := rfl
@[simp] theorem storeVram_obp1 (a : Nat) (d : Byte) (s : State) : (storeVram a d s).obp1 = s.obp1 := rfl
@[simp] theorem storeVram_wy (a : Nat) (d : Byte) (s : State) : (storeVram a d s).wy = s.wy := rfl
@[simp] theorem storeVram_wx (a : Nat) (d : Byte) (s : State) : (storeVram a d s).wx = s.wx := rfl
@[simp] theorem storeVram_mode (a : Nat) (d : Byte) (s : State) : (storeVram a d s).mode = s.mode := rfl
@[simp] theorem storeVram_dot (a : Nat) (d : Byte) (s : State) : (storeVram a d s).dot = s.dot := rfl
@[simp] theorem storeVram_coin (a : Nat) (d : Byte) (s : State) : (storeVram a d s).coin = s.coin := rfl
@[simp] theorem storeVram_wlc (a : Nat) (d : Byte) (s : State) : (storeVram a d s).wlc = s.wlc := rfl
@[simp] theorem storeVram_winDrawn (a : Nat) (d : Byte) (s : State) : (storeVram a d s).winDrawn = s.winDrawn := rfl
@[simp] theorem storeVram_winLine (a : Nat) (d : Byte) (s : State) : (storeVram a d s).winLine = s.winLine := rfl
@[simp] theorem storeVram_winMode (a : Nat) (d : Byte) (s : State) : (storeVram a d s).winMode = s.winMode := rfl
@[simp] theorem storeVram_queue (a : Nat) (d : Byte) (s : State) : (storeVram a d s).queue = s.queue := rfl
@[simp] theorem storeVram_head (a : Nat) (d : Byte) (s : State) : (storeVram a d s).head = s.head := rfl
@[simp] theorem storeVram_fphase (a : Nat) (d : Byte) (s : State) : (storeVram a d s).fphase = s.fphase := rfl
@[simp] theorem storeVram_fsub (a : Nat) (d : Byte) (s : State) : (storeVram a d s).fsub = s.fsub := rfl
@[simp] theorem storeVram_savedPhase (a : Nat) (d : Byte) (s : State) : (storeVram a d s).savedPhase = s.savedPhase := rfl
@[simp] theorem storeVram_bgTile (a : Nat) (d : Byte) (s : State) : (storeVram a d s).bgTile = s.bgTile := rfl
@[simp] theorem storeVram_winTile (a : Nat) (d : Byte) (s : State) : (storeVram a d s).winTile = s.winTile := rfl
@[simp] theorem storeVram_tileLatch (a : Nat) (d : Byte) (s : State) : (storeVram a d s).tileLatch = s.tileLatch := rfl
@[simp] theorem storeVram_loLatch (a : Nat) (d : Byte) (s : State) : (storeVram a d s).loLatch = s.loLatch := rfl
@[simp] theorem storeVram_hiLatch (a : Nat) (d : Byte) (s : State) : (storeVram a d s).hiLatch = s.hiLatch := rfl
@[simp] theorem storeVram_bgLo (a : Nat) (d : Byte) (s : State) : (storeVram a d s).bgLo = s.bgLo := rfl
@[simp] theorem storeVram_bgHi (a : Nat) (d : Byte) (s : State) : (storeVram a d s).bgHi = s.bgHi := rfl
@[simp] theorem storeVram_bgCount (a : Nat) (d : Byte) (s : State) : (storeVram a d s).bgCount = s.bgCount := rfl
@[simp] theorem storeVram_discard (a : Nat) (d : Byte) (s : State) : (storeVram a d s).discard = s.discard := rfl
@[simp] theorem storeVram_cursor (a : Nat) (d : Byte) (s : State) : (storeVram a d s).cursor = s.cursor := rfl
@[simp] theorem storeVram_sactive (a : Nat) (d : Byte) (s : State) : (storeVram a d s).sactive = s.sactive := rfl
@[simp] theorem storeVram_sphase (a : Nat) (d : Byte) (s : State) : (storeVram a d s).sphase = s.sphase := rfl
@[simp] theorem storeVram_ssub (a : Nat) (d : Byte) (s : State) : (storeVram a d s).ssub = s.ssub := rfl
@[simp] theorem storeVram_saddr (a : Nat) (d : Byte) (s : State) : (storeVram a d s).saddr = s.saddr := rfl
@[simp] theorem storeVram_sLo (a : Nat) (d : Byte) (s : State) : (storeVram a d s).sLo = s.sLo := rfl
@[simp] theorem storeVram_sHi (a : Nat) (d : Byte) (s : State) : (storeVram a d s).sHi = s.sHi := rfl
@[simp] theorem storeVram_slots (a : Nat) (d : Byte) (s : State) : (storeVram a d s).slots = s.slots := rfl
@[simp] theorem storeVram_vram (a : Nat) (d : Byte) (s : State) : (storeVram a d s).vram = Memory.write s.vram a d := rfl
@[simp] theorem storeVram_oam (a : Nat) (d : Byte) (s : State) : (storeVram a d s).oam = s.oam := rfl
@[simp] theorem storeVram_fb (a : Nat) (d : Byte) (s : State) : (storeVram a d s).fb = s.fb := rfl
@[simp] theorem storeVram_refused (a : Nat) (d : Byte) (s : State) : (storeVram a d s).refused = s.refused := rfl
@[simp] theorem storeVram_faulted (a : Nat) (d : Byte) (s : State) : (storeVram a d s).faulted = s.faulted := rfl
@[simp] theorem storeVram_requests (a : Nat) (d : Byte) (s : State) : (storeVram a d s).requests = s.requests := rfl
@[simp] theorem storeVram_out (a : Nat) (d : Byte) (s : State) : (storeVram a d s).out = s.out := rfl

@[simp] theorem storeOam_lcdc (a : Nat) (d : Byte) (s : State) : (storeOam a d s).lcdc = s.lcdc := rfl
@[simp] theorem storeOam_statEn (a : Nat) (d : Byte) (s : State) : (storeOam a d s).statEn = s.statEn := rfl
@[simp] theorem storeOam_scy (a : Nat) (d : Byte) (s : State) : (storeOam a d s).scy = s.scy := rfl
@[simp] theorem storeOam_scx (a : Nat) (d : Byte) (s : State) : (storeOam a d s).scx = s.scx := rfl
@[simp] theorem storeOam_ly (a : Nat) (d : Byte) (s : State) : (storeOam a d s).ly = s.ly := rfl
@[simp] theorem storeOam_lyc (a : Nat) (d : Byte) (s : State) : (storeOam a d s).lyc = s.lyc := rfl
@[simp] theorem storeOam_bgp (a : Nat) (d : Byte) (s : State) : (storeOam a d s).bgp = s.bgp := rfl
@[simp] theorem storeOam_obp0 (a : Nat) (d : Byte) (s : State) : (storeOam a d s).obp0 = s.obp0 := rfl
@[simp] theorem storeOam_obp1 (a : Nat) (d : Byte) (s : State) : (storeOam a d s).obp1 = s.obp1 := rfl
@[simp] theorem storeOam_wy (a : Nat) (d : Byte) (s : State) : (storeOam a d s).wy = s.wy := rfl
@[simp] theorem storeOam_wx (a : Nat) (d : Byte) (s : State) : (storeOam a d s).wx = s.wx := rfl
@[simp] theorem storeOam_mode (a : Nat) (d : Byte) (s : State) : (storeOam a d s).mode = s.mode := rfl
@[simp] theorem storeOam_dot (a : Nat) (d : Byte) (s : State) : (storeOam a d s).dot = s.dot := rfl
@[simp] theorem storeOam_coin (a : Nat) (d : Byte) (s : State) : (storeOam a d s).coin = s.coin := rfl
@[simp] theorem storeOam_wlc (a : Nat) (d : Byte) (s : State) : (storeOam a d s).wlc = s.wlc := rfl
@[simp] theorem storeOam_winDrawn (a : Nat) (d : Byte) (s : State) : (storeOam a d s).winDrawn = s.winDrawn := rfl
@[simp] theorem storeOam_winLine (a : Nat) (d : Byte) (s : State) : (storeOam a d s).winLine = s.winLine := rfl
@[simp] theorem storeOam_winMode (a : Nat) (d : Byte) (s : State) : (storeOam a d s).winMode = s.winMode := rfl
@[simp] theorem storeOam_queue (a : Nat) (d : Byte) (s : State) : (storeOam a d s).queue = s.queue := rfl
@[simp] theorem storeOam_head (a : Nat) (d : Byte) (s : State) : (storeOam a d s).head = s.head := rfl
@[simp] theorem storeOam_fphase (a : Nat) (d : Byte) (s : State) : (storeOam a d s).fphase = s.fphase := rfl
@[simp] theorem storeOam_fsub (a : Nat) (d : Byte) (s : State) : (storeOam a d s).fsub = s.fsub := rfl
@[simp] theorem storeOam_savedPhase (a : Nat) (d : Byte) (s : State) : (storeOam a d s).savedPhase = s.savedPhase := rfl
@[simp] theorem storeOam_bgTile (a : Nat) (d : Byte) (s : State) : (storeOam a d s).bgTile = s.bgTile := rfl
@[simp] theorem storeOam_winTile (a : Nat) (d : Byte) (s : State) : (storeOam a d s).winTile = s.winTile := rfl
@[simp] theorem storeOam_tileLatch (a : Nat) (d : Byte) (s : State) : (storeOam a d s).tileLatch = s.tileLatch := rfl
@[simp] theorem storeOam_loLatch (a : Nat) (d : Byte) (s : State) : (storeOam a d s).loLatch = s.loLatch := rfl
@[simp] theorem storeOam_hiLatch (a : Nat) (d : Byte) (s : State) : (storeOam a d s).hiLatch = s.hiLatch := rfl
@[simp] theorem storeOam_bgLo (a : Nat) (d : Byte) (s : State) : (storeOam a d s).bgLo = s.bgLo := rfl
@[simp] theorem storeOam_bgHi (a : Nat) (d : Byte) (s : State) : (storeOam a d s).bgHi = s.bgHi := rfl
@[simp] theorem storeOam_bgCount (a : Nat) (d : Byte) (s : State) : (storeOam a d s).bgCount = s.bgCount := rfl
@[simp] theorem storeOam_discard (a : Nat) (d : Byte) (s : State) : (storeOam a d s).discard = s.discard := rfl
@[simp] theorem storeOam_cursor (a : Nat) (d : Byte) (s : State) : (storeOam a d s).cursor = s.cursor := rfl
@[simp] theorem storeOam_sactive (a : Nat) (d : Byte) (s : State) : (storeOam a d s).sactive = s.sactive := rfl
@[simp] theorem storeOam_sphase (a : Nat) (d : Byte) (s : State) : (storeOam a d s).sphase = s.sphase := rfl
@[simp] theorem storeOam_ssub (a : Nat) (d : Byte) (s : State) : (storeOam a d s).ssub = s.ssub := rfl
@[simp] theorem storeOam_saddr (a : Nat) (d : Byte) (s : State) : (storeOam a d s).saddr = s.saddr := rfl
@[simp] theorem storeOam_sLo (a : Nat) (d : Byte) (s : State) : (storeOam a d s).sLo = s.sLo := rfl
@[simp] theorem storeOam_sHi (a : Nat) (d : Byte) (s : State) : (storeOam a d s).sHi = s.sHi := rfl
@[simp] theorem storeOam_slots (a : Nat) (d : Byte) (s : State) : (storeOam a d s).slots = s.slots := rfl
@[simp] theorem storeOam_vram (a : Nat) (d : Byte) (s : State) : (storeOam a d s).vram = s.vram := rfl
@[simp] theorem storeOam_oam (a : Nat) (d : Byte) (s : State) : (storeOam a d s).oam = Memory.write s.oam a d := rfl
@[simp] theorem storeOam_fb (a : Nat) (d : Byte) (s : State) : (storeOam a d s).fb = s.fb := rfl
@[simp] theorem storeOam_refused (a : Nat) (d : Byte) (s : State) : (storeOam a d s).refused = s.refused := rfl
@[simp] theorem storeOam_faulted (a : Nat) (d : Byte) (s : State) : (storeOam a d s).faulted = s.faulted := rfl
@[simp] theorem storeOam_requests (a : Nat) (d : Byte) (s : State) : (storeOam a d s).requests = s.requests := rfl
@[simp] theorem storeOam_out (a : Nat) (d : Byte) (s : State) : (storeOam a d s).out = s.out := rfl

@[simp] theorem storePixel_lcdc (row : Byte) (col : Nat) (p : Shade) (s : State) : (storePixel row col p s).lcdc = s.lcdc := rfl
@[simp] theorem storePixel_statEn (row : Byte) (col : Nat) (p : Shade) (s : State) : (storePixel row col p s).statEn = s.statEn := rfl
@[simp] theorem storePixel_scy (row : Byte) (col : Nat) (p : Shade) (s : State) : (storePixel row col p s).scy = s.scy := rfl
@[simp] theorem storePixel_scx (row : Byte) (col : Nat) (p : Shade) (s : State) : (storePixel row col p s).scx = s.scx := rfl
@[simp] theorem storePixel_ly (row : Byte) (col : Nat) (p : Shade) (s : State) : (storePixel row col p s).ly = s.ly := rfl
@[simp] theorem storePixel_lyc (row : Byte) (col : Nat) (p : Shade) (s : State) : (storePixel row col p s).lyc = s.lyc := rfl
@[simp] theorem storePixel_bgp (row : Byte) (col : Nat) (p : Shade) (s : State) : (storePixel row col p s).bgp = s.bgp := rfl
@[simp] theorem storePixel_obp0 (row : Byte) (col : Nat) (p : Shade) (s : State) : (storePixel row col p s).obp0 = s.obp0 := rfl
@[simp] theorem storePixel_obp1 (row : Byte) (col : Nat) (p : Shade) (s : State) : (storePixel row col p s).obp1 = s.obp1 := rfl
@[simp] theorem storePixel_wy (row : Byte) (col : Nat) (p : Shade) (s : State) : (storePixel row col p s).wy = s.wy := rfl
@[simp] theorem storePixel_wx (row : Byte) (col : Nat) (p : Shade) (s : State) : (storePixel row col p s).wx = s.wx := rfl
@[simp] theorem storePixel_mode (row : Byte) (col : Nat) (p : Shade) (s : State) : (storePixel row col p s).mode = s.mode := rfl
@[simp] theorem storePixel_dot (row : Byte) (col : Nat) (p : Shade) (s : State) : (storePixel row col p s).dot = s.dot := rfl
@[simp] theorem storePixel_coin (row : Byte) (col : Nat) (p : Shade) (s : State) : (storePixel row col p s).coin = s.coin := rfl
@[simp] theorem storePixel_wlc (row : Byte) (col : Nat) (p : Shade) (s : State) : (storePixel row col p s).wlc = s.wlc := rfl
@[simp] theorem storePixel_winDrawn (row : Byte) (col : Nat) (p : Shade) (s : State) : (storePixel row col p s).winDrawn = s.winDrawn := rfl
@[simp] theorem storePixel_winLine (row : Byte) (col : Nat) (p : Shade) (s : State) : (storePixel row col p s).winLine = s.winLine := rfl
@[simp] theorem storePixel_winMode (row : Byte) (col : Nat) (p : Shade) (s : State) : (storePixel row col p s).winMode = s.winMode := rfl
@[simp] theorem storePixel_queue (row : Byte) (col : Nat) (p : Shade) (s : State) : (storePixel row col p s).queue = s.queue := rfl
@[simp] theorem storePixel_head (row : Byte) (col : Nat) (p : Shade) (s : State) : (storePixel row col p s).head = s.head := rfl
@[simp] theorem storePixel_fphase (row : Byte) (col : Nat) (p : Shade) (s : State) : (storePixel row col p s).fphase = s.fphase := rfl
@[simp] theorem storePixel_fsub (row : Byte) (col : Nat) (p : Shade) (s : State) : (storePixel row col p s).fsub = s.fsub := rfl
@[simp] theorem storePixel_savedPhase (row : Byte) (col : Nat) (p : Shade) (s : State) : (storePixel row col p s).savedPhase = s.savedPhase := rfl
@[simp] theorem storePixel_bgTile (row : Byte) (col : Nat) (p : Shade) (s : State) : (storePixel row col p s).bgTile = s.bgTile := rfl
@[simp] theorem storePixel_winTile (row : Byte) (col : Nat) (p : Shade) (s : State) : (storePixel row col p s).winTile = s.winTile := rfl
@[simp] theorem storePixel_tileLatch (row : Byte) (col : Nat) (p : Shade) (s : State) : (storePixel row col p s).tileLatch = s.tileLatch := rfl
@[simp] theorem storePixel_loLatch (row : Byte) (col : Nat) (p : Shade) (s : State) : (storePixel row col p s).loLatch = s.loLatch := rfl
@[simp] theorem storePixel_hiLatch (row : Byte) (col : Nat) (p : Shade) (s : State) : (storePixel row col p s).hiLatch = s.hiLatch := rfl
@[simp] theorem storePixel_bgLo (row : Byte) (col : Nat) (p : Shade) (s : State) : (storePixel row col p s).bgLo = s.bgLo := rfl
@[simp] theorem storePixel_bgHi (row : Byte) (col : Nat) (p : Shade) (s : State) : (storePixel row col p s).bgHi = s.bgHi := rfl
@[simp] theorem storePixel_bgCount (row : Byte) (col : Nat) (p : Shade) (s : State) : (storePixel row col p s).bgCount = s.bgCount := rfl
@[simp] theorem storePixel_discard (row : Byte) (col : Nat) (p : Shade) (s : State) : (storePixel row col p s).discard = s.discard := rfl
@[simp] theorem storePixel_cursor (row : Byte) (col : Nat) (p : Shade) (s : State) : (storePixel row col p s).cursor = s.cursor := rfl
@[simp] theorem storePixel_sactive (row : Byte) (col : Nat) (p : Shade) (s : State) : (storePixel row col p s).sactive = s.sactive := rfl
@[simp] theorem storePixel_sphase (row : Byte) (col : Nat) (p : Shade) (s : State) : (storePixel row col p s).sphase = s.sphase := rfl
@[simp] theorem storePixel_ssub (row : Byte) (col : Nat) (p : Shade) (s : State) : (storePixel row col p s).ssub = s.ssub := rfl
@[simp] theorem storePixel_saddr (row : Byte) (col : Nat) (p : Shade) (s : State) : (storePixel row col p s).saddr = s.saddr := rfl
@[simp] theorem storePixel_sLo (row : Byte) (col : Nat) (p : Shade) (s : State) : (storePixel row col p s).sLo = s.sLo := rfl
@[simp] theorem storePixel_sHi (row : Byte) (col : Nat) (p : Shade) (s : State) : (storePixel row col p s).sHi = s.sHi := rfl
@[simp] theorem storePixel_slots (row : Byte) (col : Nat) (p : Shade) (s : State) : (storePixel row col p s).slots = s.slots := rfl
@[simp] theorem storePixel_vram (row : Byte) (col : Nat) (p : Shade) (s : State) : (storePixel row col p s).vram = s.vram := rfl
@[simp] theorem storePixel_oam (row : Byte) (col : Nat) (p : Shade) (s : State) : (storePixel row col p s).oam = s.oam := rfl
@[simp] theorem storePixel_fb (row : Byte) (col : Nat) (p : Shade) (s : State) : (storePixel row col p s).fb = Memory.write s.fb (pixelKey row col) p := rfl
@[simp] theorem storePixel_refused (row : Byte) (col : Nat) (p : Shade) (s : State) : (storePixel row col p s).refused = s.refused := rfl
@[simp] theorem storePixel_faulted (row : Byte) (col : Nat) (p : Shade) (s : State) : (storePixel row col p s).faulted = s.faulted := rfl
@[simp] theorem storePixel_requests (row : Byte) (col : Nat) (p : Shade) (s : State) : (storePixel row col p s).requests = s.requests := rfl
@[simp] theorem storePixel_out (row : Byte) (col : Nat) (p : Shade) (s : State) : (storePixel row col p s).out = s.out := rfl

end Sys2Proof.Machine
end

