-- ==== Sys2Proof/Laws/Frames.lean ====
section
/-! SUPPORT. The frame of each shared operation, in one equation: the result is the state with the named fields changed and
nothing else. -/

namespace Sys2Proof.Machine

/-- The flag and the STAT request alone (R161). -/
theorem updateCoincidence_frame (a : Bool) (s : State) :
    updateCoincidence a s = { s with
      coin := (updateCoincidence a s).coin, out := (updateCoincidence a s).out } := rfl

/-- The queue and its head alone (R180). -/
theorem oamScan_frame (s : State) :
    oamScan s = { s with
      queue := (oamScan s).queue, head := (oamScan s).head } := rfl

/-- OAM_SEARCH entry (R159). -/
theorem enterOam_frame (s : State) :
    enterOam s = { s with
      mode := (enterOam s).mode, wlc := (enterOam s).wlc, queue := (enterOam s).queue,
      head := (enterOam s).head, out := (enterOam s).out } := rfl

/-- The background fetcher's start; the latches stay (R199). -/
theorem initBgFetcher_frame (s : State) :
    initBgFetcher s = { s with
      fphase := (initBgFetcher s).fphase, fsub := (initBgFetcher s).fsub, savedPhase := (initBgFetcher s).savedPhase,
      bgTile := (initBgFetcher s).bgTile, winTile := (initBgFetcher s).winTile, bgLo := (initBgFetcher s).bgLo,
      bgHi := (initBgFetcher s).bgHi, bgCount := (initBgFetcher s).bgCount } := rfl

/-- The window flags and the discard count alone (R204). -/
theorem initWindowAndDiscard_frame (s : State) :
    initWindowAndDiscard s = { s with
      winLine := (initWindowAndDiscard s).winLine, winMode := (initWindowAndDiscard s).winMode, winDrawn := (initWindowAndDiscard s).winDrawn,
      discard := (initWindowAndDiscard s).discard } := rfl

/-- The sprite fetcher and the slots; the queue stays (R231). -/
theorem initSprites_frame (s : State) :
    initSprites s = { s with
      head := (initSprites s).head, sactive := (initSprites s).sactive, sphase := (initSprites s).sphase,
      ssub := (initSprites s).ssub, slots := (initSprites s).slots } := rfl

/-- PIXEL_TRANSFER entry (R153). -/
theorem enterTransfer_frame (s : State) :
    enterTransfer s = { s with
      mode := (enterTransfer s).mode, cursor := (enterTransfer s).cursor, fphase := (enterTransfer s).fphase,
      fsub := (enterTransfer s).fsub, savedPhase := (enterTransfer s).savedPhase, bgTile := (enterTransfer s).bgTile,
      winTile := (enterTransfer s).winTile, bgLo := (enterTransfer s).bgLo, bgHi := (enterTransfer s).bgHi,
      bgCount := (enterTransfer s).bgCount, winLine := (enterTransfer s).winLine, winMode := (enterTransfer s).winMode,
      winDrawn := (enterTransfer s).winDrawn, discard := (enterTransfer s).discard, head := (enterTransfer s).head,
      sactive := (enterTransfer s).sactive, sphase := (enterTransfer s).sphase, ssub := (enterTransfer s).ssub,
      slots := (enterTransfer s).slots } := rfl

/-- HBLANK entry (R155). -/
theorem enterHblank_frame (s : State) :
    enterHblank s = { s with
      mode := (enterHblank s).mode, out := (enterHblank s).out } := rfl

/-- VBLANK entry (R160). -/
theorem enterVblank_frame (s : State) :
    enterVblank s = { s with
      mode := (enterVblank s).mode, out := (enterVblank s).out } := rfl

/-- The line counters (R157). -/
theorem nextLine_frame (s : State) :
    nextLine s = { s with
      dot := (nextLine s).dot, wlc := (nextLine s).wlc, winDrawn := (nextLine s).winDrawn,
      ly := (nextLine s).ly } := rfl

/-- The next line's mode (R157). -/
theorem startLine_frame (s : State) :
    startLine s = { s with
      mode := (startLine s).mode, wlc := (startLine s).wlc, queue := (startLine s).queue,
      head := (startLine s).head, out := (startLine s).out } := by
  unfold startLine
  split <;> split <;> rfl

/-- The end of a line (R157). -/
theorem endOfLine_frame (s : State) :
    endOfLine s = { s with
      dot := (endOfLine s).dot, wlc := (endOfLine s).wlc, winDrawn := (endOfLine s).winDrawn,
      ly := (endOfLine s).ly, coin := (endOfLine s).coin, mode := (endOfLine s).mode,
      queue := (endOfLine s).queue, head := (endOfLine s).head, out := (endOfLine s).out } := by
  unfold endOfLine
  rw [startLine_frame]
  rfl

/-- TI (R192). -/
theorem fetchTileIndex_frame (s : State) :
    fetchTileIndex s = { s with
      tileLatch := (fetchTileIndex s).tileLatch, fphase := (fetchTileIndex s).fphase, fsub := (fetchTileIndex s).fsub } := rfl

/-- LO (R193). -/
theorem fetchLowPlane_frame (s : State) :
    fetchLowPlane s = { s with
      loLatch := (fetchLowPlane s).loLatch, fphase := (fetchLowPlane s).fphase, fsub := (fetchLowPlane s).fsub } := rfl

/-- HI (R194). -/
theorem fetchHighPlane_frame (s : State) :
    fetchHighPlane s = { s with
      hiLatch := (fetchHighPlane s).hiLatch, fphase := (fetchHighPlane s).fphase, fsub := (fetchHighPlane s).fsub } := rfl

/-- PUSH (R195). -/
theorem pushTile_frame (s : State) :
    pushTile s = { s with
      bgLo := (pushTile s).bgLo, bgHi := (pushTile s).bgHi, bgCount := (pushTile s).bgCount,
      winTile := (pushTile s).winTile, bgTile := (pushTile s).bgTile, fphase := (pushTile s).fphase,
      fsub := (pushTile s).fsub } := by
  unfold pushTile
  split <;> rfl

/-- A background fetcher dot (R191). -/
theorem bgFetchDot_frame (s : State) :
    bgFetchDot s = { s with
      tileLatch := (bgFetchDot s).tileLatch, loLatch := (bgFetchDot s).loLatch, hiLatch := (bgFetchDot s).hiLatch,
      bgLo := (bgFetchDot s).bgLo, bgHi := (bgFetchDot s).bgHi, bgCount := (bgFetchDot s).bgCount,
      winTile := (bgFetchDot s).winTile, bgTile := (bgFetchDot s).bgTile, fphase := (bgFetchDot s).fphase,
      fsub := (bgFetchDot s).fsub } := by
  unfold bgFetchDot
  split
  · split
    · rfl
    · rfl
    · rfl
    · rw [pushTile_frame]
  · rfl

/-- The background pair alone (R202). -/
theorem shiftBg_frame (s : State) :
    shiftBg s = { s with
      bgLo := (shiftBg s).bgLo, bgHi := (shiftBg s).bgHi, bgCount := (shiftBg s).bgCount } := rfl

/-- A window start, or nothing (R205). -/
theorem windowCheck_frame (s : State) :
    windowCheck s = { s with
      winMode := (windowCheck s).winMode, winDrawn := (windowCheck s).winDrawn, bgLo := (windowCheck s).bgLo,
      bgHi := (windowCheck s).bgHi, bgCount := (windowCheck s).bgCount, fphase := (windowCheck s).fphase,
      fsub := (windowCheck s).fsub, winTile := (windowCheck s).winTile } := by
  unfold windowCheck
  split <;> rfl

/-- A sprite trigger, or nothing (R220, R221). -/
theorem spriteCheck_frame (s : State) :
    spriteCheck s = { s with
      sactive := (spriteCheck s).sactive, savedPhase := (spriteCheck s).savedPhase, sphase := (spriteCheck s).sphase,
      ssub := (spriteCheck s).ssub } := by
  unfold spriteCheck
  split <;> rfl

/-- The end of a sprite fetch (R226). -/
theorem finishSprite_frame (e : Sprite) (s : State) :
    finishSprite e s = { s with
      slots := (finishSprite e s).slots, head := (finishSprite e s).head, sactive := (finishSprite e s).sactive,
      fphase := (finishSprite e s).fphase, fsub := (finishSprite e s).fsub } := rfl

/-- A sprite fetcher dot (R222): the background pair, the cursor and the frame buffer stay (R221). -/
theorem spriteFetchDot_frame (s : State) :
    spriteFetchDot s = { s with
      saddr := (spriteFetchDot s).saddr, sLo := (spriteFetchDot s).sLo, sHi := (spriteFetchDot s).sHi,
      sphase := (spriteFetchDot s).sphase, ssub := (spriteFetchDot s).ssub, slots := (spriteFetchDot s).slots,
      head := (spriteFetchDot s).head, sactive := (spriteFetchDot s).sactive, fphase := (spriteFetchDot s).fphase,
      fsub := (spriteFetchDot s).fsub, faulted := (spriteFetchDot s).faulted } := by
  unfold spriteFetchDot
  split
  · rfl
  · split
    · split <;> rfl
    · rfl

/-- A dot that writes a pixel (R240). -/
theorem writePixel_frame (s : State) :
    writePixel s = { s with
      bgLo := (writePixel s).bgLo, bgHi := (writePixel s).bgHi, bgCount := (writePixel s).bgCount,
      slots := (writePixel s).slots, cursor := (writePixel s).cursor, fb := (writePixel s).fb } := rfl

/-- A mixer dot (R240). -/
theorem mixDot_frame (s : State) :
    mixDot s = { s with
      bgLo := (mixDot s).bgLo, bgHi := (mixDot s).bgHi, bgCount := (mixDot s).bgCount,
      discard := (mixDot s).discard, slots := (mixDot s).slots, cursor := (mixDot s).cursor,
      fb := (mixDot s).fb } := by
  unfold mixDot
  split
  · rfl
  · split <;> rfl

/-- A PIXEL_TRANSFER dot (R154). -/
theorem transferDot_frame (s : State) :
    transferDot s = { s with
      winMode := (transferDot s).winMode, winDrawn := (transferDot s).winDrawn, savedPhase := (transferDot s).savedPhase,
      sactive := (transferDot s).sactive, sphase := (transferDot s).sphase, ssub := (transferDot s).ssub,
      saddr := (transferDot s).saddr, sLo := (transferDot s).sLo, sHi := (transferDot s).sHi,
      slots := (transferDot s).slots, head := (transferDot s).head, faulted := (transferDot s).faulted,
      tileLatch := (transferDot s).tileLatch, loLatch := (transferDot s).loLatch, hiLatch := (transferDot s).hiLatch,
      bgLo := (transferDot s).bgLo, bgHi := (transferDot s).bgHi, bgCount := (transferDot s).bgCount,
      winTile := (transferDot s).winTile, bgTile := (transferDot s).bgTile, fphase := (transferDot s).fphase,
      fsub := (transferDot s).fsub, discard := (transferDot s).discard, cursor := (transferDot s).cursor,
      fb := (transferDot s).fb } := by
  unfold transferDot windowCheck spriteCheck
  cases hs : s.sactive <;> dsimp only <;> (repeat' split) <;>
    first
    | (rw [spriteFetchDot_frame])
    | (rw [mixDot_frame, bgFetchDot_frame])

/-- What follows a PIXEL_TRANSFER dot (R150). -/
theorem afterTransfer_frame (s : State) :
    afterTransfer s = { s with
      mode := (afterTransfer s).mode, out := (afterTransfer s).out, faulted := (afterTransfer s).faulted } := by
  unfold afterTransfer
  split
  · rfl
  · split <;> rfl

/-- Display on (R167). -/
theorem displayOn_frame (s : State) :
    displayOn s = { s with
      dot := (displayOn s).dot, mode := (displayOn s).mode, wlc := (displayOn s).wlc,
      queue := (displayOn s).queue, head := (displayOn s).head, out := (displayOn s).out } := rfl

/-- Display off (R168). -/
theorem displayOff_frame (s : State) :
    displayOff s = { s with
      ly := (displayOff s).ly, dot := (displayOff s).dot, mode := (displayOff s).mode,
      winDrawn := (displayOff s).winDrawn, sactive := (displayOff s).sactive, queue := (displayOff s).queue,
      head := (displayOff s).head, coin := (displayOff s).coin, out := (displayOff s).out } := rfl

/-- The power change of an LCDC write (R123). -/
theorem switchDisplay_frame (b : Bool) (s : State) :
    switchDisplay b s = { s with
      ly := (switchDisplay b s).ly, dot := (switchDisplay b s).dot, mode := (switchDisplay b s).mode,
      winDrawn := (switchDisplay b s).winDrawn, sactive := (switchDisplay b s).sactive, queue := (switchDisplay b s).queue,
      head := (switchDisplay b s).head, coin := (switchDisplay b s).coin, wlc := (switchDisplay b s).wlc,
      out := (switchDisplay b s).out } := by
  unfold switchDisplay
  split
  · rfl
  · split <;> rfl

/-! The same, field by field, for the operations whose results later proofs read. -/

@[simp] theorem updateCoincidence_lcdc (a : Bool) (s : State) : (updateCoincidence a s).lcdc = s.lcdc := by rw [updateCoincidence_frame]
@[simp] theorem updateCoincidence_statEn (a : Bool) (s : State) : (updateCoincidence a s).statEn = s.statEn := by rw [updateCoincidence_frame]
@[simp] theorem updateCoincidence_scy (a : Bool) (s : State) : (updateCoincidence a s).scy = s.scy := by rw [updateCoincidence_frame]
@[simp] theorem updateCoincidence_scx (a : Bool) (s : State) : (updateCoincidence a s).scx = s.scx := by rw [updateCoincidence_frame]
@[simp] theorem updateCoincidence_ly (a : Bool) (s : State) : (updateCoincidence a s).ly = s.ly := by rw [updateCoincidence_frame]
@[simp] theorem updateCoincidence_lyc (a : Bool) (s : State) : (updateCoincidence a s).lyc = s.lyc := by rw [updateCoincidence_frame]
@[simp] theorem updateCoincidence_bgp (a : Bool) (s : State) : (updateCoincidence a s).bgp = s.bgp := by rw [updateCoincidence_frame]
@[simp] theorem updateCoincidence_obp0 (a : Bool) (s : State) : (updateCoincidence a s).obp0 = s.obp0 := by rw [updateCoincidence_frame]
@[simp] theorem updateCoincidence_obp1 (a : Bool) (s : State) : (updateCoincidence a s).obp1 = s.obp1 := by rw [updateCoincidence_frame]
@[simp] theorem updateCoincidence_wy (a : Bool) (s : State) : (updateCoincidence a s).wy = s.wy := by rw [updateCoincidence_frame]
@[simp] theorem updateCoincidence_wx (a : Bool) (s : State) : (updateCoincidence a s).wx = s.wx := by rw [updateCoincidence_frame]
@[simp] theorem updateCoincidence_mode (a : Bool) (s : State) : (updateCoincidence a s).mode = s.mode := by rw [updateCoincidence_frame]
@[simp] theorem updateCoincidence_dot (a : Bool) (s : State) : (updateCoincidence a s).dot = s.dot := by rw [updateCoincidence_frame]
@[simp] theorem updateCoincidence_wlc (a : Bool) (s : State) : (updateCoincidence a s).wlc = s.wlc := by rw [updateCoincidence_frame]
@[simp] theorem updateCoincidence_winDrawn (a : Bool) (s : State) : (updateCoincidence a s).winDrawn = s.winDrawn := by rw [updateCoincidence_frame]
@[simp] theorem updateCoincidence_winLine (a : Bool) (s : State) : (updateCoincidence a s).winLine = s.winLine := by rw [updateCoincidence_frame]
@[simp] theorem updateCoincidence_winMode (a : Bool) (s : State) : (updateCoincidence a s).winMode = s.winMode := by rw [updateCoincidence_frame]
@[simp] theorem updateCoincidence_queue (a : Bool) (s : State) : (updateCoincidence a s).queue = s.queue := by rw [updateCoincidence_frame]
@[simp] theorem updateCoincidence_head (a : Bool) (s : State) : (updateCoincidence a s).head = s.head := by rw [updateCoincidence_frame]
@[simp] theorem updateCoincidence_fphase (a : Bool) (s : State) : (updateCoincidence a s).fphase = s.fphase := by rw [updateCoincidence_frame]
@[simp] theorem updateCoincidence_fsub (a : Bool) (s : State) : (updateCoincidence a s).fsub = s.fsub := by rw [updateCoincidence_frame]
@[simp] theorem updateCoincidence_savedPhase (a : Bool) (s : State) : (updateCoincidence a s).savedPhase = s.savedPhase := by rw [updateCoincidence_frame]
@[simp] theorem updateCoincidence_bgTile (a : Bool) (s : State) : (updateCoincidence a s).bgTile = s.bgTile := by rw [updateCoincidence_frame]
@[simp] theorem updateCoincidence_winTile (a : Bool) (s : State) : (updateCoincidence a s).winTile = s.winTile := by rw [updateCoincidence_frame]
@[simp] theorem updateCoincidence_tileLatch (a : Bool) (s : State) : (updateCoincidence a s).tileLatch = s.tileLatch := by rw [updateCoincidence_frame]
@[simp] theorem updateCoincidence_loLatch (a : Bool) (s : State) : (updateCoincidence a s).loLatch = s.loLatch := by rw [updateCoincidence_frame]
@[simp] theorem updateCoincidence_hiLatch (a : Bool) (s : State) : (updateCoincidence a s).hiLatch = s.hiLatch := by rw [updateCoincidence_frame]
@[simp] theorem updateCoincidence_bgLo (a : Bool) (s : State) : (updateCoincidence a s).bgLo = s.bgLo := by rw [updateCoincidence_frame]
@[simp] theorem updateCoincidence_bgHi (a : Bool) (s : State) : (updateCoincidence a s).bgHi = s.bgHi := by rw [updateCoincidence_frame]
@[simp] theorem updateCoincidence_bgCount (a : Bool) (s : State) : (updateCoincidence a s).bgCount = s.bgCount := by rw [updateCoincidence_frame]
@[simp] theorem updateCoincidence_discard (a : Bool) (s : State) : (updateCoincidence a s).discard = s.discard := by rw [updateCoincidence_frame]
@[simp] theorem updateCoincidence_cursor (a : Bool) (s : State) : (updateCoincidence a s).cursor = s.cursor := by rw [updateCoincidence_frame]
@[simp] theorem updateCoincidence_sactive (a : Bool) (s : State) : (updateCoincidence a s).sactive = s.sactive := by rw [updateCoincidence_frame]
@[simp] theorem updateCoincidence_sphase (a : Bool) (s : State) : (updateCoincidence a s).sphase = s.sphase := by rw [updateCoincidence_frame]
@[simp] theorem updateCoincidence_ssub (a : Bool) (s : State) : (updateCoincidence a s).ssub = s.ssub := by rw [updateCoincidence_frame]
@[simp] theorem updateCoincidence_saddr (a : Bool) (s : State) : (updateCoincidence a s).saddr = s.saddr := by rw [updateCoincidence_frame]
@[simp] theorem updateCoincidence_sLo (a : Bool) (s : State) : (updateCoincidence a s).sLo = s.sLo := by rw [updateCoincidence_frame]
@[simp] theorem updateCoincidence_sHi (a : Bool) (s : State) : (updateCoincidence a s).sHi = s.sHi := by rw [updateCoincidence_frame]
@[simp] theorem updateCoincidence_slots (a : Bool) (s : State) : (updateCoincidence a s).slots = s.slots := by rw [updateCoincidence_frame]
@[simp] theorem updateCoincidence_vram (a : Bool) (s : State) : (updateCoincidence a s).vram = s.vram := by rw [updateCoincidence_frame]
@[simp] theorem updateCoincidence_oam (a : Bool) (s : State) : (updateCoincidence a s).oam = s.oam := by rw [updateCoincidence_frame]
@[simp] theorem updateCoincidence_fb (a : Bool) (s : State) : (updateCoincidence a s).fb = s.fb := by rw [updateCoincidence_frame]
@[simp] theorem updateCoincidence_refused (a : Bool) (s : State) : (updateCoincidence a s).refused = s.refused := by rw [updateCoincidence_frame]
@[simp] theorem updateCoincidence_faulted (a : Bool) (s : State) : (updateCoincidence a s).faulted = s.faulted := by rw [updateCoincidence_frame]
@[simp] theorem updateCoincidence_requests (a : Bool) (s : State) : (updateCoincidence a s).requests = s.requests := by rw [updateCoincidence_frame]

@[simp] theorem enterOam_lcdc (s : State) : (enterOam s).lcdc = s.lcdc := by rw [enterOam_frame]
@[simp] theorem enterOam_statEn (s : State) : (enterOam s).statEn = s.statEn := by rw [enterOam_frame]
@[simp] theorem enterOam_scy (s : State) : (enterOam s).scy = s.scy := by rw [enterOam_frame]
@[simp] theorem enterOam_scx (s : State) : (enterOam s).scx = s.scx := by rw [enterOam_frame]
@[simp] theorem enterOam_ly (s : State) : (enterOam s).ly = s.ly := by rw [enterOam_frame]
@[simp] theorem enterOam_lyc (s : State) : (enterOam s).lyc = s.lyc := by rw [enterOam_frame]
@[simp] theorem enterOam_bgp (s : State) : (enterOam s).bgp = s.bgp := by rw [enterOam_frame]
@[simp] theorem enterOam_obp0 (s : State) : (enterOam s).obp0 = s.obp0 := by rw [enterOam_frame]
@[simp] theorem enterOam_obp1 (s : State) : (enterOam s).obp1 = s.obp1 := by rw [enterOam_frame]
@[simp] theorem enterOam_wy (s : State) : (enterOam s).wy = s.wy := by rw [enterOam_frame]
@[simp] theorem enterOam_wx (s : State) : (enterOam s).wx = s.wx := by rw [enterOam_frame]
@[simp] theorem enterOam_dot (s : State) : (enterOam s).dot = s.dot := by rw [enterOam_frame]
@[simp] theorem enterOam_coin (s : State) : (enterOam s).coin = s.coin := by rw [enterOam_frame]
@[simp] theorem enterOam_winDrawn (s : State) : (enterOam s).winDrawn = s.winDrawn := by rw [enterOam_frame]
@[simp] theorem enterOam_winLine (s : State) : (enterOam s).winLine = s.winLine := by rw [enterOam_frame]
@[simp] theorem enterOam_winMode (s : State) : (enterOam s).winMode = s.winMode := by rw [enterOam_frame]
@[simp] theorem enterOam_fphase (s : State) : (enterOam s).fphase = s.fphase := by rw [enterOam_frame]
@[simp] theorem enterOam_fsub (s : State) : (enterOam s).fsub = s.fsub := by rw [enterOam_frame]
@[simp] theorem enterOam_savedPhase (s : State) : (enterOam s).savedPhase = s.savedPhase := by rw [enterOam_frame]
@[simp] theorem enterOam_bgTile (s : State) : (enterOam s).bgTile = s.bgTile := by rw [enterOam_frame]
@[simp] theorem enterOam_winTile (s : State) : (enterOam s).winTile = s.winTile := by rw [enterOam_frame]
@[simp] theorem enterOam_tileLatch (s : State) : (enterOam s).tileLatch = s.tileLatch := by rw [enterOam_frame]
@[simp] theorem enterOam_loLatch (s : State) : (enterOam s).loLatch = s.loLatch := by rw [enterOam_frame]
@[simp] theorem enterOam_hiLatch (s : State) : (enterOam s).hiLatch = s.hiLatch := by rw [enterOam_frame]
@[simp] theorem enterOam_bgLo (s : State) : (enterOam s).bgLo = s.bgLo := by rw [enterOam_frame]
@[simp] theorem enterOam_bgHi (s : State) : (enterOam s).bgHi = s.bgHi := by rw [enterOam_frame]
@[simp] theorem enterOam_bgCount (s : State) : (enterOam s).bgCount = s.bgCount := by rw [enterOam_frame]
@[simp] theorem enterOam_discard (s : State) : (enterOam s).discard = s.discard := by rw [enterOam_frame]
@[simp] theorem enterOam_cursor (s : State) : (enterOam s).cursor = s.cursor := by rw [enterOam_frame]
@[simp] theorem enterOam_sactive (s : State) : (enterOam s).sactive = s.sactive := by rw [enterOam_frame]
@[simp] theorem enterOam_sphase (s : State) : (enterOam s).sphase = s.sphase := by rw [enterOam_frame]
@[simp] theorem enterOam_ssub (s : State) : (enterOam s).ssub = s.ssub := by rw [enterOam_frame]
@[simp] theorem enterOam_saddr (s : State) : (enterOam s).saddr = s.saddr := by rw [enterOam_frame]
@[simp] theorem enterOam_sLo (s : State) : (enterOam s).sLo = s.sLo := by rw [enterOam_frame]
@[simp] theorem enterOam_sHi (s : State) : (enterOam s).sHi = s.sHi := by rw [enterOam_frame]
@[simp] theorem enterOam_slots (s : State) : (enterOam s).slots = s.slots := by rw [enterOam_frame]
@[simp] theorem enterOam_vram (s : State) : (enterOam s).vram = s.vram := by rw [enterOam_frame]
@[simp] theorem enterOam_oam (s : State) : (enterOam s).oam = s.oam := by rw [enterOam_frame]
@[simp] theorem enterOam_fb (s : State) : (enterOam s).fb = s.fb := by rw [enterOam_frame]
@[simp] theorem enterOam_refused (s : State) : (enterOam s).refused = s.refused := by rw [enterOam_frame]
@[simp] theorem enterOam_faulted (s : State) : (enterOam s).faulted = s.faulted := by rw [enterOam_frame]
@[simp] theorem enterOam_requests (s : State) : (enterOam s).requests = s.requests := by rw [enterOam_frame]

@[simp] theorem startLine_lcdc (s : State) : (startLine s).lcdc = s.lcdc := by rw [startLine_frame]
@[simp] theorem startLine_statEn (s : State) : (startLine s).statEn = s.statEn := by rw [startLine_frame]
@[simp] theorem startLine_scy (s : State) : (startLine s).scy = s.scy := by rw [startLine_frame]
@[simp] theorem startLine_scx (s : State) : (startLine s).scx = s.scx := by rw [startLine_frame]
@[simp] theorem startLine_ly (s : State) : (startLine s).ly = s.ly := by rw [startLine_frame]
@[simp] theorem startLine_lyc (s : State) : (startLine s).lyc = s.lyc := by rw [startLine_frame]
@[simp] theorem startLine_bgp (s : State) : (startLine s).bgp = s.bgp := by rw [startLine_frame]
@[simp] theorem startLine_obp0 (s : State) : (startLine s).obp0 = s.obp0 := by rw [startLine_frame]
@[simp] theorem startLine_obp1 (s : State) : (startLine s).obp1 = s.obp1 := by rw [startLine_frame]
@[simp] theorem startLine_wy (s : State) : (startLine s).wy = s.wy := by rw [startLine_frame]
@[simp] theorem startLine_wx (s : State) : (startLine s).wx = s.wx := by rw [startLine_frame]
@[simp] theorem startLine_dot (s : State) : (startLine s).dot = s.dot := by rw [startLine_frame]
@[simp] theorem startLine_coin (s : State) : (startLine s).coin = s.coin := by rw [startLine_frame]
@[simp] theorem startLine_winDrawn (s : State) : (startLine s).winDrawn = s.winDrawn := by rw [startLine_frame]
@[simp] theorem startLine_winLine (s : State) : (startLine s).winLine = s.winLine := by rw [startLine_frame]
@[simp] theorem startLine_winMode (s : State) : (startLine s).winMode = s.winMode := by rw [startLine_frame]
@[simp] theorem startLine_fphase (s : State) : (startLine s).fphase = s.fphase := by rw [startLine_frame]
@[simp] theorem startLine_fsub (s : State) : (startLine s).fsub = s.fsub := by rw [startLine_frame]
@[simp] theorem startLine_savedPhase (s : State) : (startLine s).savedPhase = s.savedPhase := by rw [startLine_frame]
@[simp] theorem startLine_bgTile (s : State) : (startLine s).bgTile = s.bgTile := by rw [startLine_frame]
@[simp] theorem startLine_winTile (s : State) : (startLine s).winTile = s.winTile := by rw [startLine_frame]
@[simp] theorem startLine_tileLatch (s : State) : (startLine s).tileLatch = s.tileLatch := by rw [startLine_frame]
@[simp] theorem startLine_loLatch (s : State) : (startLine s).loLatch = s.loLatch := by rw [startLine_frame]
@[simp] theorem startLine_hiLatch (s : State) : (startLine s).hiLatch = s.hiLatch := by rw [startLine_frame]
@[simp] theorem startLine_bgLo (s : State) : (startLine s).bgLo = s.bgLo := by rw [startLine_frame]
@[simp] theorem startLine_bgHi (s : State) : (startLine s).bgHi = s.bgHi := by rw [startLine_frame]
@[simp] theorem startLine_bgCount (s : State) : (startLine s).bgCount = s.bgCount := by rw [startLine_frame]
@[simp] theorem startLine_discard (s : State) : (startLine s).discard = s.discard := by rw [startLine_frame]
@[simp] theorem startLine_cursor (s : State) : (startLine s).cursor = s.cursor := by rw [startLine_frame]
@[simp] theorem startLine_sactive (s : State) : (startLine s).sactive = s.sactive := by rw [startLine_frame]
@[simp] theorem startLine_sphase (s : State) : (startLine s).sphase = s.sphase := by rw [startLine_frame]
@[simp] theorem startLine_ssub (s : State) : (startLine s).ssub = s.ssub := by rw [startLine_frame]
@[simp] theorem startLine_saddr (s : State) : (startLine s).saddr = s.saddr := by rw [startLine_frame]
@[simp] theorem startLine_sLo (s : State) : (startLine s).sLo = s.sLo := by rw [startLine_frame]
@[simp] theorem startLine_sHi (s : State) : (startLine s).sHi = s.sHi := by rw [startLine_frame]
@[simp] theorem startLine_slots (s : State) : (startLine s).slots = s.slots := by rw [startLine_frame]
@[simp] theorem startLine_vram (s : State) : (startLine s).vram = s.vram := by rw [startLine_frame]
@[simp] theorem startLine_oam (s : State) : (startLine s).oam = s.oam := by rw [startLine_frame]
@[simp] theorem startLine_fb (s : State) : (startLine s).fb = s.fb := by rw [startLine_frame]
@[simp] theorem startLine_refused (s : State) : (startLine s).refused = s.refused := by rw [startLine_frame]
@[simp] theorem startLine_faulted (s : State) : (startLine s).faulted = s.faulted := by rw [startLine_frame]
@[simp] theorem startLine_requests (s : State) : (startLine s).requests = s.requests := by rw [startLine_frame]

@[simp] theorem bgFetchDot_lcdc (s : State) : (bgFetchDot s).lcdc = s.lcdc := by rw [bgFetchDot_frame]
@[simp] theorem bgFetchDot_statEn (s : State) : (bgFetchDot s).statEn = s.statEn := by rw [bgFetchDot_frame]
@[simp] theorem bgFetchDot_scy (s : State) : (bgFetchDot s).scy = s.scy := by rw [bgFetchDot_frame]
@[simp] theorem bgFetchDot_scx (s : State) : (bgFetchDot s).scx = s.scx := by rw [bgFetchDot_frame]
@[simp] theorem bgFetchDot_ly (s : State) : (bgFetchDot s).ly = s.ly := by rw [bgFetchDot_frame]
@[simp] theorem bgFetchDot_lyc (s : State) : (bgFetchDot s).lyc = s.lyc := by rw [bgFetchDot_frame]
@[simp] theorem bgFetchDot_bgp (s : State) : (bgFetchDot s).bgp = s.bgp := by rw [bgFetchDot_frame]
@[simp] theorem bgFetchDot_obp0 (s : State) : (bgFetchDot s).obp0 = s.obp0 := by rw [bgFetchDot_frame]
@[simp] theorem bgFetchDot_obp1 (s : State) : (bgFetchDot s).obp1 = s.obp1 := by rw [bgFetchDot_frame]
@[simp] theorem bgFetchDot_wy (s : State) : (bgFetchDot s).wy = s.wy := by rw [bgFetchDot_frame]
@[simp] theorem bgFetchDot_wx (s : State) : (bgFetchDot s).wx = s.wx := by rw [bgFetchDot_frame]
@[simp] theorem bgFetchDot_mode (s : State) : (bgFetchDot s).mode = s.mode := by rw [bgFetchDot_frame]
@[simp] theorem bgFetchDot_dot (s : State) : (bgFetchDot s).dot = s.dot := by rw [bgFetchDot_frame]
@[simp] theorem bgFetchDot_coin (s : State) : (bgFetchDot s).coin = s.coin := by rw [bgFetchDot_frame]
@[simp] theorem bgFetchDot_wlc (s : State) : (bgFetchDot s).wlc = s.wlc := by rw [bgFetchDot_frame]
@[simp] theorem bgFetchDot_winDrawn (s : State) : (bgFetchDot s).winDrawn = s.winDrawn := by rw [bgFetchDot_frame]
@[simp] theorem bgFetchDot_winLine (s : State) : (bgFetchDot s).winLine = s.winLine := by rw [bgFetchDot_frame]
@[simp] theorem bgFetchDot_winMode (s : State) : (bgFetchDot s).winMode = s.winMode := by rw [bgFetchDot_frame]
@[simp] theorem bgFetchDot_queue (s : State) : (bgFetchDot s).queue = s.queue := by rw [bgFetchDot_frame]
@[simp] theorem bgFetchDot_head (s : State) : (bgFetchDot s).head = s.head := by rw [bgFetchDot_frame]
@[simp] theorem bgFetchDot_savedPhase (s : State) : (bgFetchDot s).savedPhase = s.savedPhase := by rw [bgFetchDot_frame]
@[simp] theorem bgFetchDot_discard (s : State) : (bgFetchDot s).discard = s.discard := by rw [bgFetchDot_frame]
@[simp] theorem bgFetchDot_cursor (s : State) : (bgFetchDot s).cursor = s.cursor := by rw [bgFetchDot_frame]
@[simp] theorem bgFetchDot_sactive (s : State) : (bgFetchDot s).sactive = s.sactive := by rw [bgFetchDot_frame]
@[simp] theorem bgFetchDot_sphase (s : State) : (bgFetchDot s).sphase = s.sphase := by rw [bgFetchDot_frame]
@[simp] theorem bgFetchDot_ssub (s : State) : (bgFetchDot s).ssub = s.ssub := by rw [bgFetchDot_frame]
@[simp] theorem bgFetchDot_saddr (s : State) : (bgFetchDot s).saddr = s.saddr := by rw [bgFetchDot_frame]
@[simp] theorem bgFetchDot_sLo (s : State) : (bgFetchDot s).sLo = s.sLo := by rw [bgFetchDot_frame]
@[simp] theorem bgFetchDot_sHi (s : State) : (bgFetchDot s).sHi = s.sHi := by rw [bgFetchDot_frame]
@[simp] theorem bgFetchDot_slots (s : State) : (bgFetchDot s).slots = s.slots := by rw [bgFetchDot_frame]
@[simp] theorem bgFetchDot_vram (s : State) : (bgFetchDot s).vram = s.vram := by rw [bgFetchDot_frame]
@[simp] theorem bgFetchDot_oam (s : State) : (bgFetchDot s).oam = s.oam := by rw [bgFetchDot_frame]
@[simp] theorem bgFetchDot_fb (s : State) : (bgFetchDot s).fb = s.fb := by rw [bgFetchDot_frame]
@[simp] theorem bgFetchDot_refused (s : State) : (bgFetchDot s).refused = s.refused := by rw [bgFetchDot_frame]
@[simp] theorem bgFetchDot_faulted (s : State) : (bgFetchDot s).faulted = s.faulted := by rw [bgFetchDot_frame]
@[simp] theorem bgFetchDot_requests (s : State) : (bgFetchDot s).requests = s.requests := by rw [bgFetchDot_frame]
@[simp] theorem bgFetchDot_out (s : State) : (bgFetchDot s).out = s.out := by rw [bgFetchDot_frame]

@[simp] theorem windowCheck_lcdc (s : State) : (windowCheck s).lcdc = s.lcdc := by rw [windowCheck_frame]
@[simp] theorem windowCheck_statEn (s : State) : (windowCheck s).statEn = s.statEn := by rw [windowCheck_frame]
@[simp] theorem windowCheck_scy (s : State) : (windowCheck s).scy = s.scy := by rw [windowCheck_frame]
@[simp] theorem windowCheck_scx (s : State) : (windowCheck s).scx = s.scx := by rw [windowCheck_frame]
@[simp] theorem windowCheck_ly (s : State) : (windowCheck s).ly = s.ly := by rw [windowCheck_frame]
@[simp] theorem windowCheck_lyc (s : State) : (windowCheck s).lyc = s.lyc := by rw [windowCheck_frame]
@[simp] theorem windowCheck_bgp (s : State) : (windowCheck s).bgp = s.bgp := by rw [windowCheck_frame]
@[simp] theorem windowCheck_obp0 (s : State) : (windowCheck s).obp0 = s.obp0 := by rw [windowCheck_frame]
@[simp] theorem windowCheck_obp1 (s : State) : (windowCheck s).obp1 = s.obp1 := by rw [windowCheck_frame]
@[simp] theorem windowCheck_wy (s : State) : (windowCheck s).wy = s.wy := by rw [windowCheck_frame]
@[simp] theorem windowCheck_wx (s : State) : (windowCheck s).wx = s.wx := by rw [windowCheck_frame]
@[simp] theorem windowCheck_mode (s : State) : (windowCheck s).mode = s.mode := by rw [windowCheck_frame]
@[simp] theorem windowCheck_dot (s : State) : (windowCheck s).dot = s.dot := by rw [windowCheck_frame]
@[simp] theorem windowCheck_coin (s : State) : (windowCheck s).coin = s.coin := by rw [windowCheck_frame]
@[simp] theorem windowCheck_wlc (s : State) : (windowCheck s).wlc = s.wlc := by rw [windowCheck_frame]
@[simp] theorem windowCheck_winLine (s : State) : (windowCheck s).winLine = s.winLine := by rw [windowCheck_frame]
@[simp] theorem windowCheck_queue (s : State) : (windowCheck s).queue = s.queue := by rw [windowCheck_frame]
@[simp] theorem windowCheck_head (s : State) : (windowCheck s).head = s.head := by rw [windowCheck_frame]
@[simp] theorem windowCheck_savedPhase (s : State) : (windowCheck s).savedPhase = s.savedPhase := by rw [windowCheck_frame]
@[simp] theorem windowCheck_bgTile (s : State) : (windowCheck s).bgTile = s.bgTile := by rw [windowCheck_frame]
@[simp] theorem windowCheck_tileLatch (s : State) : (windowCheck s).tileLatch = s.tileLatch := by rw [windowCheck_frame]
@[simp] theorem windowCheck_loLatch (s : State) : (windowCheck s).loLatch = s.loLatch := by rw [windowCheck_frame]
@[simp] theorem windowCheck_hiLatch (s : State) : (windowCheck s).hiLatch = s.hiLatch := by rw [windowCheck_frame]
@[simp] theorem windowCheck_discard (s : State) : (windowCheck s).discard = s.discard := by rw [windowCheck_frame]
@[simp] theorem windowCheck_cursor (s : State) : (windowCheck s).cursor = s.cursor := by rw [windowCheck_frame]
@[simp] theorem windowCheck_sactive (s : State) : (windowCheck s).sactive = s.sactive := by rw [windowCheck_frame]
@[simp] theorem windowCheck_sphase (s : State) : (windowCheck s).sphase = s.sphase := by rw [windowCheck_frame]
@[simp] theorem windowCheck_ssub (s : State) : (windowCheck s).ssub = s.ssub := by rw [windowCheck_frame]
@[simp] theorem windowCheck_saddr (s : State) : (windowCheck s).saddr = s.saddr := by rw [windowCheck_frame]
@[simp] theorem windowCheck_sLo (s : State) : (windowCheck s).sLo = s.sLo := by rw [windowCheck_frame]
@[simp] theorem windowCheck_sHi (s : State) : (windowCheck s).sHi = s.sHi := by rw [windowCheck_frame]
@[simp] theorem windowCheck_slots (s : State) : (windowCheck s).slots = s.slots := by rw [windowCheck_frame]
@[simp] theorem windowCheck_vram (s : State) : (windowCheck s).vram = s.vram := by rw [windowCheck_frame]
@[simp] theorem windowCheck_oam (s : State) : (windowCheck s).oam = s.oam := by rw [windowCheck_frame]
@[simp] theorem windowCheck_fb (s : State) : (windowCheck s).fb = s.fb := by rw [windowCheck_frame]
@[simp] theorem windowCheck_refused (s : State) : (windowCheck s).refused = s.refused := by rw [windowCheck_frame]
@[simp] theorem windowCheck_faulted (s : State) : (windowCheck s).faulted = s.faulted := by rw [windowCheck_frame]
@[simp] theorem windowCheck_requests (s : State) : (windowCheck s).requests = s.requests := by rw [windowCheck_frame]
@[simp] theorem windowCheck_out (s : State) : (windowCheck s).out = s.out := by rw [windowCheck_frame]

@[simp] theorem spriteCheck_lcdc (s : State) : (spriteCheck s).lcdc = s.lcdc := by rw [spriteCheck_frame]
@[simp] theorem spriteCheck_statEn (s : State) : (spriteCheck s).statEn = s.statEn := by rw [spriteCheck_frame]
@[simp] theorem spriteCheck_scy (s : State) : (spriteCheck s).scy = s.scy := by rw [spriteCheck_frame]
@[simp] theorem spriteCheck_scx (s : State) : (spriteCheck s).scx = s.scx := by rw [spriteCheck_frame]
@[simp] theorem spriteCheck_ly (s : State) : (spriteCheck s).ly = s.ly := by rw [spriteCheck_frame]
@[simp] theorem spriteCheck_lyc (s : State) : (spriteCheck s).lyc = s.lyc := by rw [spriteCheck_frame]
@[simp] theorem spriteCheck_bgp (s : State) : (spriteCheck s).bgp = s.bgp := by rw [spriteCheck_frame]
@[simp] theorem spriteCheck_obp0 (s : State) : (spriteCheck s).obp0 = s.obp0 := by rw [spriteCheck_frame]
@[simp] theorem spriteCheck_obp1 (s : State) : (spriteCheck s).obp1 = s.obp1 := by rw [spriteCheck_frame]
@[simp] theorem spriteCheck_wy (s : State) : (spriteCheck s).wy = s.wy := by rw [spriteCheck_frame]
@[simp] theorem spriteCheck_wx (s : State) : (spriteCheck s).wx = s.wx := by rw [spriteCheck_frame]
@[simp] theorem spriteCheck_mode (s : State) : (spriteCheck s).mode = s.mode := by rw [spriteCheck_frame]
@[simp] theorem spriteCheck_dot (s : State) : (spriteCheck s).dot = s.dot := by rw [spriteCheck_frame]
@[simp] theorem spriteCheck_coin (s : State) : (spriteCheck s).coin = s.coin := by rw [spriteCheck_frame]
@[simp] theorem spriteCheck_wlc (s : State) : (spriteCheck s).wlc = s.wlc := by rw [spriteCheck_frame]
@[simp] theorem spriteCheck_winDrawn (s : State) : (spriteCheck s).winDrawn = s.winDrawn := by rw [spriteCheck_frame]
@[simp] theorem spriteCheck_winLine (s : State) : (spriteCheck s).winLine = s.winLine := by rw [spriteCheck_frame]
@[simp] theorem spriteCheck_winMode (s : State) : (spriteCheck s).winMode = s.winMode := by rw [spriteCheck_frame]
@[simp] theorem spriteCheck_queue (s : State) : (spriteCheck s).queue = s.queue := by rw [spriteCheck_frame]
@[simp] theorem spriteCheck_head (s : State) : (spriteCheck s).head = s.head := by rw [spriteCheck_frame]
@[simp] theorem spriteCheck_fphase (s : State) : (spriteCheck s).fphase = s.fphase := by rw [spriteCheck_frame]
@[simp] theorem spriteCheck_fsub (s : State) : (spriteCheck s).fsub = s.fsub := by rw [spriteCheck_frame]
@[simp] theorem spriteCheck_bgTile (s : State) : (spriteCheck s).bgTile = s.bgTile := by rw [spriteCheck_frame]
@[simp] theorem spriteCheck_winTile (s : State) : (spriteCheck s).winTile = s.winTile := by rw [spriteCheck_frame]
@[simp] theorem spriteCheck_tileLatch (s : State) : (spriteCheck s).tileLatch = s.tileLatch := by rw [spriteCheck_frame]
@[simp] theorem spriteCheck_loLatch (s : State) : (spriteCheck s).loLatch = s.loLatch := by rw [spriteCheck_frame]
@[simp] theorem spriteCheck_hiLatch (s : State) : (spriteCheck s).hiLatch = s.hiLatch := by rw [spriteCheck_frame]
@[simp] theorem spriteCheck_bgLo (s : State) : (spriteCheck s).bgLo = s.bgLo := by rw [spriteCheck_frame]
@[simp] theorem spriteCheck_bgHi (s : State) : (spriteCheck s).bgHi = s.bgHi := by rw [spriteCheck_frame]
@[simp] theorem spriteCheck_bgCount (s : State) : (spriteCheck s).bgCount = s.bgCount := by rw [spriteCheck_frame]
@[simp] theorem spriteCheck_discard (s : State) : (spriteCheck s).discard = s.discard := by rw [spriteCheck_frame]
@[simp] theorem spriteCheck_cursor (s : State) : (spriteCheck s).cursor = s.cursor := by rw [spriteCheck_frame]
@[simp] theorem spriteCheck_saddr (s : State) : (spriteCheck s).saddr = s.saddr := by rw [spriteCheck_frame]
@[simp] theorem spriteCheck_sLo (s : State) : (spriteCheck s).sLo = s.sLo := by rw [spriteCheck_frame]
@[simp] theorem spriteCheck_sHi (s : State) : (spriteCheck s).sHi = s.sHi := by rw [spriteCheck_frame]
@[simp] theorem spriteCheck_slots (s : State) : (spriteCheck s).slots = s.slots := by rw [spriteCheck_frame]
@[simp] theorem spriteCheck_vram (s : State) : (spriteCheck s).vram = s.vram := by rw [spriteCheck_frame]
@[simp] theorem spriteCheck_oam (s : State) : (spriteCheck s).oam = s.oam := by rw [spriteCheck_frame]
@[simp] theorem spriteCheck_fb (s : State) : (spriteCheck s).fb = s.fb := by rw [spriteCheck_frame]
@[simp] theorem spriteCheck_refused (s : State) : (spriteCheck s).refused = s.refused := by rw [spriteCheck_frame]
@[simp] theorem spriteCheck_faulted (s : State) : (spriteCheck s).faulted = s.faulted := by rw [spriteCheck_frame]
@[simp] theorem spriteCheck_requests (s : State) : (spriteCheck s).requests = s.requests := by rw [spriteCheck_frame]
@[simp] theorem spriteCheck_out (s : State) : (spriteCheck s).out = s.out := by rw [spriteCheck_frame]

@[simp] theorem spriteFetchDot_lcdc (s : State) : (spriteFetchDot s).lcdc = s.lcdc := by rw [spriteFetchDot_frame]
@[simp] theorem spriteFetchDot_statEn (s : State) : (spriteFetchDot s).statEn = s.statEn := by rw [spriteFetchDot_frame]
@[simp] theorem spriteFetchDot_scy (s : State) : (spriteFetchDot s).scy = s.scy := by rw [spriteFetchDot_frame]
@[simp] theorem spriteFetchDot_scx (s : State) : (spriteFetchDot s).scx = s.scx := by rw [spriteFetchDot_frame]
@[simp] theorem spriteFetchDot_ly (s : State) : (spriteFetchDot s).ly = s.ly := by rw [spriteFetchDot_frame]
@[simp] theorem spriteFetchDot_lyc (s : State) : (spriteFetchDot s).lyc = s.lyc := by rw [spriteFetchDot_frame]
@[simp] theorem spriteFetchDot_bgp (s : State) : (spriteFetchDot s).bgp = s.bgp := by rw [spriteFetchDot_frame]
@[simp] theorem spriteFetchDot_obp0 (s : State) : (spriteFetchDot s).obp0 = s.obp0 := by rw [spriteFetchDot_frame]
@[simp] theorem spriteFetchDot_obp1 (s : State) : (spriteFetchDot s).obp1 = s.obp1 := by rw [spriteFetchDot_frame]
@[simp] theorem spriteFetchDot_wy (s : State) : (spriteFetchDot s).wy = s.wy := by rw [spriteFetchDot_frame]
@[simp] theorem spriteFetchDot_wx (s : State) : (spriteFetchDot s).wx = s.wx := by rw [spriteFetchDot_frame]
@[simp] theorem spriteFetchDot_mode (s : State) : (spriteFetchDot s).mode = s.mode := by rw [spriteFetchDot_frame]
@[simp] theorem spriteFetchDot_dot (s : State) : (spriteFetchDot s).dot = s.dot := by rw [spriteFetchDot_frame]
@[simp] theorem spriteFetchDot_coin (s : State) : (spriteFetchDot s).coin = s.coin := by rw [spriteFetchDot_frame]
@[simp] theorem spriteFetchDot_wlc (s : State) : (spriteFetchDot s).wlc = s.wlc := by rw [spriteFetchDot_frame]
@[simp] theorem spriteFetchDot_winDrawn (s : State) : (spriteFetchDot s).winDrawn = s.winDrawn := by rw [spriteFetchDot_frame]
@[simp] theorem spriteFetchDot_winLine (s : State) : (spriteFetchDot s).winLine = s.winLine := by rw [spriteFetchDot_frame]
@[simp] theorem spriteFetchDot_winMode (s : State) : (spriteFetchDot s).winMode = s.winMode := by rw [spriteFetchDot_frame]
@[simp] theorem spriteFetchDot_queue (s : State) : (spriteFetchDot s).queue = s.queue := by rw [spriteFetchDot_frame]
@[simp] theorem spriteFetchDot_savedPhase (s : State) : (spriteFetchDot s).savedPhase = s.savedPhase := by rw [spriteFetchDot_frame]
@[simp] theorem spriteFetchDot_bgTile (s : State) : (spriteFetchDot s).bgTile = s.bgTile := by rw [spriteFetchDot_frame]
@[simp] theorem spriteFetchDot_winTile (s : State) : (spriteFetchDot s).winTile = s.winTile := by rw [spriteFetchDot_frame]
@[simp] theorem spriteFetchDot_tileLatch (s : State) : (spriteFetchDot s).tileLatch = s.tileLatch := by rw [spriteFetchDot_frame]
@[simp] theorem spriteFetchDot_loLatch (s : State) : (spriteFetchDot s).loLatch = s.loLatch := by rw [spriteFetchDot_frame]
@[simp] theorem spriteFetchDot_hiLatch (s : State) : (spriteFetchDot s).hiLatch = s.hiLatch := by rw [spriteFetchDot_frame]
@[simp] theorem spriteFetchDot_bgLo (s : State) : (spriteFetchDot s).bgLo = s.bgLo := by rw [spriteFetchDot_frame]
@[simp] theorem spriteFetchDot_bgHi (s : State) : (spriteFetchDot s).bgHi = s.bgHi := by rw [spriteFetchDot_frame]
@[simp] theorem spriteFetchDot_bgCount (s : State) : (spriteFetchDot s).bgCount = s.bgCount := by rw [spriteFetchDot_frame]
@[simp] theorem spriteFetchDot_discard (s : State) : (spriteFetchDot s).discard = s.discard := by rw [spriteFetchDot_frame]
@[simp] theorem spriteFetchDot_cursor (s : State) : (spriteFetchDot s).cursor = s.cursor := by rw [spriteFetchDot_frame]
@[simp] theorem spriteFetchDot_vram (s : State) : (spriteFetchDot s).vram = s.vram := by rw [spriteFetchDot_frame]
@[simp] theorem spriteFetchDot_oam (s : State) : (spriteFetchDot s).oam = s.oam := by rw [spriteFetchDot_frame]
@[simp] theorem spriteFetchDot_fb (s : State) : (spriteFetchDot s).fb = s.fb := by rw [spriteFetchDot_frame]
@[simp] theorem spriteFetchDot_refused (s : State) : (spriteFetchDot s).refused = s.refused := by rw [spriteFetchDot_frame]
@[simp] theorem spriteFetchDot_requests (s : State) : (spriteFetchDot s).requests = s.requests := by rw [spriteFetchDot_frame]
@[simp] theorem spriteFetchDot_out (s : State) : (spriteFetchDot s).out = s.out := by rw [spriteFetchDot_frame]

@[simp] theorem mixDot_lcdc (s : State) : (mixDot s).lcdc = s.lcdc := by rw [mixDot_frame]
@[simp] theorem mixDot_statEn (s : State) : (mixDot s).statEn = s.statEn := by rw [mixDot_frame]
@[simp] theorem mixDot_scy (s : State) : (mixDot s).scy = s.scy := by rw [mixDot_frame]
@[simp] theorem mixDot_scx (s : State) : (mixDot s).scx = s.scx := by rw [mixDot_frame]
@[simp] theorem mixDot_ly (s : State) : (mixDot s).ly = s.ly := by rw [mixDot_frame]
@[simp] theorem mixDot_lyc (s : State) : (mixDot s).lyc = s.lyc := by rw [mixDot_frame]
@[simp] theorem mixDot_bgp (s : State) : (mixDot s).bgp = s.bgp := by rw [mixDot_frame]
@[simp] theorem mixDot_obp0 (s : State) : (mixDot s).obp0 = s.obp0 := by rw [mixDot_frame]
@[simp] theorem mixDot_obp1 (s : State) : (mixDot s).obp1 = s.obp1 := by rw [mixDot_frame]
@[simp] theorem mixDot_wy (s : State) : (mixDot s).wy = s.wy := by rw [mixDot_frame]
@[simp] theorem mixDot_wx (s : State) : (mixDot s).wx = s.wx := by rw [mixDot_frame]
@[simp] theorem mixDot_mode (s : State) : (mixDot s).mode = s.mode := by rw [mixDot_frame]
@[simp] theorem mixDot_dot (s : State) : (mixDot s).dot = s.dot := by rw [mixDot_frame]
@[simp] theorem mixDot_coin (s : State) : (mixDot s).coin = s.coin := by rw [mixDot_frame]
@[simp] theorem mixDot_wlc (s : State) : (mixDot s).wlc = s.wlc := by rw [mixDot_frame]
@[simp] theorem mixDot_winDrawn (s : State) : (mixDot s).winDrawn = s.winDrawn := by rw [mixDot_frame]
@[simp] theorem mixDot_winLine (s : State) : (mixDot s).winLine = s.winLine := by rw [mixDot_frame]
@[simp] theorem mixDot_winMode (s : State) : (mixDot s).winMode = s.winMode := by rw [mixDot_frame]
@[simp] theorem mixDot_queue (s : State) : (mixDot s).queue = s.queue := by rw [mixDot_frame]
@[simp] theorem mixDot_head (s : State) : (mixDot s).head = s.head := by rw [mixDot_frame]
@[simp] theorem mixDot_fphase (s : State) : (mixDot s).fphase = s.fphase := by rw [mixDot_frame]
@[simp] theorem mixDot_fsub (s : State) : (mixDot s).fsub = s.fsub := by rw [mixDot_frame]
@[simp] theorem mixDot_savedPhase (s : State) : (mixDot s).savedPhase = s.savedPhase := by rw [mixDot_frame]
@[simp] theorem mixDot_bgTile (s : State) : (mixDot s).bgTile = s.bgTile := by rw [mixDot_frame]
@[simp] theorem mixDot_winTile (s : State) : (mixDot s).winTile = s.winTile := by rw [mixDot_frame]
@[simp] theorem mixDot_tileLatch (s : State) : (mixDot s).tileLatch = s.tileLatch := by rw [mixDot_frame]
@[simp] theorem mixDot_loLatch (s : State) : (mixDot s).loLatch = s.loLatch := by rw [mixDot_frame]
@[simp] theorem mixDot_hiLatch (s : State) : (mixDot s).hiLatch = s.hiLatch := by rw [mixDot_frame]
@[simp] theorem mixDot_sactive (s : State) : (mixDot s).sactive = s.sactive := by rw [mixDot_frame]
@[simp] theorem mixDot_sphase (s : State) : (mixDot s).sphase = s.sphase := by rw [mixDot_frame]
@[simp] theorem mixDot_ssub (s : State) : (mixDot s).ssub = s.ssub := by rw [mixDot_frame]
@[simp] theorem mixDot_saddr (s : State) : (mixDot s).saddr = s.saddr := by rw [mixDot_frame]
@[simp] theorem mixDot_sLo (s : State) : (mixDot s).sLo = s.sLo := by rw [mixDot_frame]
@[simp] theorem mixDot_sHi (s : State) : (mixDot s).sHi = s.sHi := by rw [mixDot_frame]
@[simp] theorem mixDot_vram (s : State) : (mixDot s).vram = s.vram := by rw [mixDot_frame]
@[simp] theorem mixDot_oam (s : State) : (mixDot s).oam = s.oam := by rw [mixDot_frame]
@[simp] theorem mixDot_refused (s : State) : (mixDot s).refused = s.refused := by rw [mixDot_frame]
@[simp] theorem mixDot_faulted (s : State) : (mixDot s).faulted = s.faulted := by rw [mixDot_frame]
@[simp] theorem mixDot_requests (s : State) : (mixDot s).requests = s.requests := by rw [mixDot_frame]
@[simp] theorem mixDot_out (s : State) : (mixDot s).out = s.out := by rw [mixDot_frame]

@[simp] theorem transferDot_lcdc (s : State) : (transferDot s).lcdc = s.lcdc := by rw [transferDot_frame]
@[simp] theorem transferDot_statEn (s : State) : (transferDot s).statEn = s.statEn := by rw [transferDot_frame]
@[simp] theorem transferDot_scy (s : State) : (transferDot s).scy = s.scy := by rw [transferDot_frame]
@[simp] theorem transferDot_scx (s : State) : (transferDot s).scx = s.scx := by rw [transferDot_frame]
@[simp] theorem transferDot_ly (s : State) : (transferDot s).ly = s.ly := by rw [transferDot_frame]
@[simp] theorem transferDot_lyc (s : State) : (transferDot s).lyc = s.lyc := by rw [transferDot_frame]
@[simp] theorem transferDot_bgp (s : State) : (transferDot s).bgp = s.bgp := by rw [transferDot_frame]
@[simp] theorem transferDot_obp0 (s : State) : (transferDot s).obp0 = s.obp0 := by rw [transferDot_frame]
@[simp] theorem transferDot_obp1 (s : State) : (transferDot s).obp1 = s.obp1 := by rw [transferDot_frame]
@[simp] theorem transferDot_wy (s : State) : (transferDot s).wy = s.wy := by rw [transferDot_frame]
@[simp] theorem transferDot_wx (s : State) : (transferDot s).wx = s.wx := by rw [transferDot_frame]
@[simp] theorem transferDot_mode (s : State) : (transferDot s).mode = s.mode := by rw [transferDot_frame]
@[simp] theorem transferDot_dot (s : State) : (transferDot s).dot = s.dot := by rw [transferDot_frame]
@[simp] theorem transferDot_coin (s : State) : (transferDot s).coin = s.coin := by rw [transferDot_frame]
@[simp] theorem transferDot_wlc (s : State) : (transferDot s).wlc = s.wlc := by rw [transferDot_frame]
@[simp] theorem transferDot_winLine (s : State) : (transferDot s).winLine = s.winLine := by rw [transferDot_frame]
@[simp] theorem transferDot_queue (s : State) : (transferDot s).queue = s.queue := by rw [transferDot_frame]
@[simp] theorem transferDot_vram (s : State) : (transferDot s).vram = s.vram := by rw [transferDot_frame]
@[simp] theorem transferDot_oam (s : State) : (transferDot s).oam = s.oam := by rw [transferDot_frame]
@[simp] theorem transferDot_refused (s : State) : (transferDot s).refused = s.refused := by rw [transferDot_frame]
@[simp] theorem transferDot_requests (s : State) : (transferDot s).requests = s.requests := by rw [transferDot_frame]
@[simp] theorem transferDot_out (s : State) : (transferDot s).out = s.out := by rw [transferDot_frame]

@[simp] theorem afterTransfer_lcdc (s : State) : (afterTransfer s).lcdc = s.lcdc := by rw [afterTransfer_frame]
@[simp] theorem afterTransfer_statEn (s : State) : (afterTransfer s).statEn = s.statEn := by rw [afterTransfer_frame]
@[simp] theorem afterTransfer_scy (s : State) : (afterTransfer s).scy = s.scy := by rw [afterTransfer_frame]
@[simp] theorem afterTransfer_scx (s : State) : (afterTransfer s).scx = s.scx := by rw [afterTransfer_frame]
@[simp] theorem afterTransfer_ly (s : State) : (afterTransfer s).ly = s.ly := by rw [afterTransfer_frame]
@[simp] theorem afterTransfer_lyc (s : State) : (afterTransfer s).lyc = s.lyc := by rw [afterTransfer_frame]
@[simp] theorem afterTransfer_bgp (s : State) : (afterTransfer s).bgp = s.bgp := by rw [afterTransfer_frame]
@[simp] theorem afterTransfer_obp0 (s : State) : (afterTransfer s).obp0 = s.obp0 := by rw [afterTransfer_frame]
@[simp] theorem afterTransfer_obp1 (s : State) : (afterTransfer s).obp1 = s.obp1 := by rw [afterTransfer_frame]
@[simp] theorem afterTransfer_wy (s : State) : (afterTransfer s).wy = s.wy := by rw [afterTransfer_frame]
@[simp] theorem afterTransfer_wx (s : State) : (afterTransfer s).wx = s.wx := by rw [afterTransfer_frame]
@[simp] theorem afterTransfer_dot (s : State) : (afterTransfer s).dot = s.dot := by rw [afterTransfer_frame]
@[simp] theorem afterTransfer_coin (s : State) : (afterTransfer s).coin = s.coin := by rw [afterTransfer_frame]
@[simp] theorem afterTransfer_wlc (s : State) : (afterTransfer s).wlc = s.wlc := by rw [afterTransfer_frame]
@[simp] theorem afterTransfer_winDrawn (s : State) : (afterTransfer s).winDrawn = s.winDrawn := by rw [afterTransfer_frame]
@[simp] theorem afterTransfer_winLine (s : State) : (afterTransfer s).winLine = s.winLine := by rw [afterTransfer_frame]
@[simp] theorem afterTransfer_winMode (s : State) : (afterTransfer s).winMode = s.winMode := by rw [afterTransfer_frame]
@[simp] theorem afterTransfer_queue (s : State) : (afterTransfer s).queue = s.queue := by rw [afterTransfer_frame]
@[simp] theorem afterTransfer_head (s : State) : (afterTransfer s).head = s.head := by rw [afterTransfer_frame]
@[simp] theorem afterTransfer_fphase (s : State) : (afterTransfer s).fphase = s.fphase := by rw [afterTransfer_frame]
@[simp] theorem afterTransfer_fsub (s : State) : (afterTransfer s).fsub = s.fsub := by rw [afterTransfer_frame]
@[simp] theorem afterTransfer_savedPhase (s : State) : (afterTransfer s).savedPhase = s.savedPhase := by rw [afterTransfer_frame]
@[simp] theorem afterTransfer_bgTile (s : State) : (afterTransfer s).bgTile = s.bgTile := by rw [afterTransfer_frame]
@[simp] theorem afterTransfer_winTile (s : State) : (afterTransfer s).winTile = s.winTile := by rw [afterTransfer_frame]
@[simp] theorem afterTransfer_tileLatch (s : State) : (afterTransfer s).tileLatch = s.tileLatch := by rw [afterTransfer_frame]
@[simp] theorem afterTransfer_loLatch (s : State) : (afterTransfer s).loLatch = s.loLatch := by rw [afterTransfer_frame]
@[simp] theorem afterTransfer_hiLatch (s : State) : (afterTransfer s).hiLatch = s.hiLatch := by rw [afterTransfer_frame]
@[simp] theorem afterTransfer_bgLo (s : State) : (afterTransfer s).bgLo = s.bgLo := by rw [afterTransfer_frame]
@[simp] theorem afterTransfer_bgHi (s : State) : (afterTransfer s).bgHi = s.bgHi := by rw [afterTransfer_frame]
@[simp] theorem afterTransfer_bgCount (s : State) : (afterTransfer s).bgCount = s.bgCount := by rw [afterTransfer_frame]
@[simp] theorem afterTransfer_discard (s : State) : (afterTransfer s).discard = s.discard := by rw [afterTransfer_frame]
@[simp] theorem afterTransfer_cursor (s : State) : (afterTransfer s).cursor = s.cursor := by rw [afterTransfer_frame]
@[simp] theorem afterTransfer_sactive (s : State) : (afterTransfer s).sactive = s.sactive := by rw [afterTransfer_frame]
@[simp] theorem afterTransfer_sphase (s : State) : (afterTransfer s).sphase = s.sphase := by rw [afterTransfer_frame]
@[simp] theorem afterTransfer_ssub (s : State) : (afterTransfer s).ssub = s.ssub := by rw [afterTransfer_frame]
@[simp] theorem afterTransfer_saddr (s : State) : (afterTransfer s).saddr = s.saddr := by rw [afterTransfer_frame]
@[simp] theorem afterTransfer_sLo (s : State) : (afterTransfer s).sLo = s.sLo := by rw [afterTransfer_frame]
@[simp] theorem afterTransfer_sHi (s : State) : (afterTransfer s).sHi = s.sHi := by rw [afterTransfer_frame]
@[simp] theorem afterTransfer_slots (s : State) : (afterTransfer s).slots = s.slots := by rw [afterTransfer_frame]
@[simp] theorem afterTransfer_vram (s : State) : (afterTransfer s).vram = s.vram := by rw [afterTransfer_frame]
@[simp] theorem afterTransfer_oam (s : State) : (afterTransfer s).oam = s.oam := by rw [afterTransfer_frame]
@[simp] theorem afterTransfer_fb (s : State) : (afterTransfer s).fb = s.fb := by rw [afterTransfer_frame]
@[simp] theorem afterTransfer_refused (s : State) : (afterTransfer s).refused = s.refused := by rw [afterTransfer_frame]
@[simp] theorem afterTransfer_requests (s : State) : (afterTransfer s).requests = s.requests := by rw [afterTransfer_frame]

@[simp] theorem switchDisplay_lcdc (b : Bool) (s : State) : (switchDisplay b s).lcdc = s.lcdc := by rw [switchDisplay_frame]
@[simp] theorem switchDisplay_statEn (b : Bool) (s : State) : (switchDisplay b s).statEn = s.statEn := by rw [switchDisplay_frame]
@[simp] theorem switchDisplay_scy (b : Bool) (s : State) : (switchDisplay b s).scy = s.scy := by rw [switchDisplay_frame]
@[simp] theorem switchDisplay_scx (b : Bool) (s : State) : (switchDisplay b s).scx = s.scx := by rw [switchDisplay_frame]
@[simp] theorem switchDisplay_lyc (b : Bool) (s : State) : (switchDisplay b s).lyc = s.lyc := by rw [switchDisplay_frame]
@[simp] theorem switchDisplay_bgp (b : Bool) (s : State) : (switchDisplay b s).bgp = s.bgp := by rw [switchDisplay_frame]
@[simp] theorem switchDisplay_obp0 (b : Bool) (s : State) : (switchDisplay b s).obp0 = s.obp0 := by rw [switchDisplay_frame]
@[simp] theorem switchDisplay_obp1 (b : Bool) (s : State) : (switchDisplay b s).obp1 = s.obp1 := by rw [switchDisplay_frame]
@[simp] theorem switchDisplay_wy (b : Bool) (s : State) : (switchDisplay b s).wy = s.wy := by rw [switchDisplay_frame]
@[simp] theorem switchDisplay_wx (b : Bool) (s : State) : (switchDisplay b s).wx = s.wx := by rw [switchDisplay_frame]
@[simp] theorem switchDisplay_winLine (b : Bool) (s : State) : (switchDisplay b s).winLine = s.winLine := by rw [switchDisplay_frame]
@[simp] theorem switchDisplay_winMode (b : Bool) (s : State) : (switchDisplay b s).winMode = s.winMode := by rw [switchDisplay_frame]
@[simp] theorem switchDisplay_fphase (b : Bool) (s : State) : (switchDisplay b s).fphase = s.fphase := by rw [switchDisplay_frame]
@[simp] theorem switchDisplay_fsub (b : Bool) (s : State) : (switchDisplay b s).fsub = s.fsub := by rw [switchDisplay_frame]
@[simp] theorem switchDisplay_savedPhase (b : Bool) (s : State) : (switchDisplay b s).savedPhase = s.savedPhase := by rw [switchDisplay_frame]
@[simp] theorem switchDisplay_bgTile (b : Bool) (s : State) : (switchDisplay b s).bgTile = s.bgTile := by rw [switchDisplay_frame]
@[simp] theorem switchDisplay_winTile (b : Bool) (s : State) : (switchDisplay b s).winTile = s.winTile := by rw [switchDisplay_frame]
@[simp] theorem switchDisplay_tileLatch (b : Bool) (s : State) : (switchDisplay b s).tileLatch = s.tileLatch := by rw [switchDisplay_frame]
@[simp] theorem switchDisplay_loLatch (b : Bool) (s : State) : (switchDisplay b s).loLatch = s.loLatch := by rw [switchDisplay_frame]
@[simp] theorem switchDisplay_hiLatch (b : Bool) (s : State) : (switchDisplay b s).hiLatch = s.hiLatch := by rw [switchDisplay_frame]
@[simp] theorem switchDisplay_bgLo (b : Bool) (s : State) : (switchDisplay b s).bgLo = s.bgLo := by rw [switchDisplay_frame]
@[simp] theorem switchDisplay_bgHi (b : Bool) (s : State) : (switchDisplay b s).bgHi = s.bgHi := by rw [switchDisplay_frame]
@[simp] theorem switchDisplay_bgCount (b : Bool) (s : State) : (switchDisplay b s).bgCount = s.bgCount := by rw [switchDisplay_frame]
@[simp] theorem switchDisplay_discard (b : Bool) (s : State) : (switchDisplay b s).discard = s.discard := by rw [switchDisplay_frame]
@[simp] theorem switchDisplay_cursor (b : Bool) (s : State) : (switchDisplay b s).cursor = s.cursor := by rw [switchDisplay_frame]
@[simp] theorem switchDisplay_sphase (b : Bool) (s : State) : (switchDisplay b s).sphase = s.sphase := by rw [switchDisplay_frame]
@[simp] theorem switchDisplay_ssub (b : Bool) (s : State) : (switchDisplay b s).ssub = s.ssub := by rw [switchDisplay_frame]
@[simp] theorem switchDisplay_saddr (b : Bool) (s : State) : (switchDisplay b s).saddr = s.saddr := by rw [switchDisplay_frame]
@[simp] theorem switchDisplay_sLo (b : Bool) (s : State) : (switchDisplay b s).sLo = s.sLo := by rw [switchDisplay_frame]
@[simp] theorem switchDisplay_sHi (b : Bool) (s : State) : (switchDisplay b s).sHi = s.sHi := by rw [switchDisplay_frame]
@[simp] theorem switchDisplay_slots (b : Bool) (s : State) : (switchDisplay b s).slots = s.slots := by rw [switchDisplay_frame]
@[simp] theorem switchDisplay_vram (b : Bool) (s : State) : (switchDisplay b s).vram = s.vram := by rw [switchDisplay_frame]
@[simp] theorem switchDisplay_oam (b : Bool) (s : State) : (switchDisplay b s).oam = s.oam := by rw [switchDisplay_frame]
@[simp] theorem switchDisplay_fb (b : Bool) (s : State) : (switchDisplay b s).fb = s.fb := by rw [switchDisplay_frame]
@[simp] theorem switchDisplay_refused (b : Bool) (s : State) : (switchDisplay b s).refused = s.refused := by rw [switchDisplay_frame]
@[simp] theorem switchDisplay_faulted (b : Bool) (s : State) : (switchDisplay b s).faulted = s.faulted := by rw [switchDisplay_frame]
@[simp] theorem switchDisplay_requests (b : Bool) (s : State) : (switchDisplay b s).requests = s.requests := by rw [switchDisplay_frame]

end Sys2Proof.Machine
end

