-- ==== Sys2Proof/Laws/Memory.lean ====
section
/-! SUPPORT. The laws of a store: read after write, and that a write keeps the canonical form. -/

namespace Sys2Proof.Machine

variable {w : Nat}

/-- A key below every listed key is unlisted. -/
theorem Memory.read_of_below (m : Memory w) (a : Nat) (h : ∀ c ∈ m, a < c.1) :
    Memory.read m a = Config.unlisted w := by
  induction m with
  | nil => rfl
  | cons c rest ih =>
    obtain ⟨k, v⟩ := c
    have hk : k ≠ a := by have := h (k, v) (by simp); simp at this; omega
    simp only [Memory.read, hk, if_false]
    exact ih (fun c hc => h c (by simp [hc]))

/-- A write adds no key but its own. -/
theorem Memory.key_of_mem_write {m : Memory w} {a : Nat} {v : BitVec w} {c : Nat × BitVec w}
    (h : c ∈ Memory.write m a v) : c ∈ m ∨ (c = (a, v) ∧ v ≠ Config.unlisted w) := by
  induction m with
  | nil =>
    by_cases hv : v = Config.unlisted w <;> simp_all [Memory.write]
  | cons e rest ih =>
    obtain ⟨k, u⟩ := e
    simp only [Memory.write] at h
    split at h
    · rcases List.mem_cons.1 h with h | h
      · exact .inl (by simp [h])
      · rcases ih h with h | h
        · exact .inl (by simp [h])
        · exact .inr h
    · have ht : ∀ {c}, c ∈ (if k = a then rest else (k, u) :: rest) → c ∈ (k, u) :: rest := by
        intro c hc
        by_cases hk : k = a
        · exact List.mem_cons_of_mem _ (by simpa [hk] using hc)
        · simpa [hk] using hc
      by_cases hv : v = Config.unlisted w
      · exact .inl (ht (by simpa [hv] using h))
      · rcases List.mem_cons.1 (by simpa only [hv, if_false] using h) with h | h
        · exact .inr ⟨h, hv⟩
        · exact .inl (ht h)

/-- Every write keeps the canonical form of a store it is in range of. -/
theorem Memory.write_wf {size : Nat} {m : Memory w} {a : Nat} (v : BitVec w) (hm : Memory.wf size m) (ha : a < size) :
    Memory.wf size (Memory.write m a v) := by
  refine ⟨?_, fun c hc => ?_⟩
  · obtain ⟨hs, -⟩ := hm
    induction m with
    | nil => by_cases hv : v = Config.unlisted w <;> simp [Memory.write, hv]
    | cons e rest ih =>
      obtain ⟨k, u⟩ := e
      obtain ⟨hk, hr⟩ := List.pairwise_cons.1 hs
      simp only [Memory.write]
      split
      · rename_i hka
        refine List.pairwise_cons.2 ⟨fun c hc => ?_, ih hr⟩
        rcases Memory.key_of_mem_write hc with hc | ⟨rfl, -⟩
        · exact hk c hc
        · exact hka
      · rename_i hka
        by_cases hv : v = Config.unlisted w <;> by_cases hk' : k = a
        · simp [hv, hk', hr]
        · simp only [hv, hk', if_true, if_false]; exact hs
        · subst hk'; simp only [hv, if_true, if_false]; exact List.pairwise_cons.2 ⟨hk, hr⟩
        · simp only [hv, hk', if_false]
          refine List.pairwise_cons.2 ⟨fun c hc => ?_, hs⟩
          rcases List.mem_cons.1 hc with rfl | hc
          · simp; omega
          · have := hk c hc; simp at this ⊢; omega
  · rcases Memory.key_of_mem_write hc with hc | ⟨rfl, hv⟩
    · exact hm.2 c hc
    · exact ⟨ha, hv⟩

/-- Read after write at the same key. -/
theorem Memory.read_write_same (m : Memory w) (a : Nat) (v : BitVec w)
    (hs : m.Pairwise (fun c e => c.1 < e.1)) : Memory.read (Memory.write m a v) a = v := by
  induction m with
  | nil => by_cases hv : v = Config.unlisted w <;> simp [Memory.write, Memory.read, hv]
  | cons e rest ih =>
    obtain ⟨k, u⟩ := e
    obtain ⟨hk, hr⟩ := List.pairwise_cons.1 hs
    simp only [Memory.write]
    split
    · rename_i hka
      have : k ≠ a := by omega
      simp [Memory.read, this, ih hr]
    · rename_i hka
      by_cases hv : v = Config.unlisted w
      · rw [if_pos hv, hv]
        refine Memory.read_of_below _ _ fun c hc => ?_
        by_cases hk' : k = a
        · simp only [hk', if_true] at hc; subst hk'; exact hk c hc
        · simp only [hk', if_false] at hc
          rcases List.mem_cons.1 hc with rfl | hc
          · simp; omega
          · have := hk c hc; simp at this ⊢; omega
      · simp [hv, Memory.read]

/-- A write leaves every other key alone. -/
theorem Memory.read_write_other (m : Memory w) (a b : Nat) (v : BitVec w) (hab : b ≠ a)
    (hs : m.Pairwise (fun c e => c.1 < e.1)) : Memory.read (Memory.write m a v) b = Memory.read m b := by
  induction m with
  | nil => by_cases hv : v = Config.unlisted w <;> simp [Memory.write, Memory.read, hv, hab.symm]
  | cons e rest ih =>
    obtain ⟨k, u⟩ := e
    obtain ⟨hk, hr⟩ := List.pairwise_cons.1 hs
    simp only [Memory.write]
    split
    · simp [Memory.read, ih hr]
    · by_cases hv : v = Config.unlisted w <;> by_cases hk' : k = a
      · subst hk'; simp [hv, Memory.read, hab.symm]
      · simp [hv, hk']
      · subst hk'; simp [hv, Memory.read, hab.symm]
      · simp [hv, hk', Memory.read, hab.symm]

/-- A read after a write, in one equation. -/
theorem Memory.read_write (m : Memory w) (a b : Nat) (v : BitVec w) (hs : m.Pairwise (fun c e => c.1 < e.1)) :
    Memory.read (Memory.write m a v) b = if b = a then v else Memory.read m b := by
  by_cases h : b = a
  · subst h; rw [if_pos rfl]; exact Memory.read_write_same m b v hs
  · rw [if_neg h]; exact Memory.read_write_other m a b v h hs

/-- Two canonical stores that read alike are the same list. -/
theorem Memory.ext_of_read {size : Nat} {m n : Memory w} (hm : Memory.wf size m) (hn : Memory.wf size n)
    (h : ∀ a, Memory.read m a = Memory.read n a) : m = n := by
  induction m generalizing n with
  | nil =>
    cases n with
    | nil => rfl
    | cons e rest =>
      exact absurd (by simpa [Memory.read] using (h e.1).symm) (hn.2 e (by simp)).2
  | cons c rest ih =>
    obtain ⟨k, v⟩ := c
    obtain ⟨hmp, hmv⟩ := hm
    obtain ⟨hk, hr⟩ := List.pairwise_cons.1 hmp
    cases n with
    | nil => exact absurd (by simpa [Memory.read] using h k) (hmv (k, v) (by simp)).2
    | cons e rest' =>
      obtain ⟨j, u⟩ := e
      obtain ⟨hnp, hnv⟩ := hn
      obtain ⟨hj, hr'⟩ := List.pairwise_cons.1 hnp
      have hkj : k = j := by
        rcases Nat.lt_trichotomy k j with hlt | heq | hlt
        · have h1 : Memory.read ((j, u) :: rest') k = Config.unlisted w :=
            Memory.read_of_below _ _ fun c hc => by
              rcases List.mem_cons.1 hc with rfl | hc
              · exact hlt
              · exact Nat.lt_trans hlt (hj c hc)
          exact absurd (by have := h k; rw [h1] at this; simpa [Memory.read] using this) (hmv (k, v) (by simp)).2
        · exact heq
        · have h1 : Memory.read ((k, v) :: rest) j = Config.unlisted w :=
            Memory.read_of_below _ _ fun c hc => by
              rcases List.mem_cons.1 hc with rfl | hc
              · exact hlt
              · exact Nat.lt_trans hlt (hk c hc)
          exact absurd (by have := h j; rw [h1] at this; simpa [Memory.read] using this.symm) (hnv (j, u) (by simp)).2
      subst hkj
      have hvu : v = u := by simpa [Memory.read] using h k
      subst hvu
      congr 1
      refine ih ⟨hr, fun c hc => hmv c (by simp [hc])⟩ ⟨hr', fun c hc => hnv c (by simp [hc])⟩ fun a => ?_
      by_cases hka : k = a
      · subst hka
        rw [Memory.read_of_below rest k hk, Memory.read_of_below rest' k hj]
      · simpa [Memory.read, hka] using h a

/-- The empty store is canonical. -/
theorem Memory.nil_wf (size : Nat) : Memory.wf size ([] : Memory w) := ⟨List.Pairwise.nil, by simp⟩

/-- An empty store reads as unlisted everywhere. -/
theorem Memory.read_nil (a : Nat) : Memory.read ([] : Memory w) a = Config.unlisted w := rfl

end Sys2Proof.Machine
end

