-- ==== Sys2Proof/Laws/Operands.lean ====
section
/-! SUPPORT. The offsets of the requests, the fields a STAT read and a palette give, and that every operation on a memory
keeps its canonical form. -/

namespace Sys2Proof.Machine

/-- `a & 0x1FFF` is `a mod 8192` (R64). -/
theorem vramOffset_eq (a : Offset) : vramOffset a = a.toNat % 8192 := by
  rw [vramOffset, BitVec.toNat_and]
  exact Nat.and_two_pow_sub_one_eq_mod a.toNat 13

/-- A VRAM offset lies in the storage (R64). -/
theorem vramOffset_lt (a : Offset) : vramOffset a < Config.vramSize := by
  rw [vramOffset_eq]; exact Nat.mod_lt _ (by decide)

/-- An OAM offset lies in the table (R65). -/
theorem oamOffset_lt (a : Offset) : oamOffset a < Config.oamSize := Nat.mod_lt _ (by decide)

/-- The pixel of a visible line and a column lies in the frame buffer (R43). -/
theorem pixelKey_lt {row : Byte} {col : Nat} (hr : row.toNat ≤ 143) (hc : col < 160) : pixelKey row col < Config.fbSize := by
  simp only [pixelKey, Config.fbSize]; omega

/-- The wrapped offset is the block's own reduction too (R66). -/
theorem vramByte_vramOffset (s : State) (a : Offset) : vramByte s (vramOffset a) = Memory.read s.vram (a.toNat % 8192) := by
  rw [vramByte, vramOffset_eq, Nat.mod_mod]

/-- Bit 7 of STAT reads 1 (R113). -/
theorem statByte_bit7 (s : State) : (statByte s).getLsbD 7 = true := by
  rw [statByte, BitVec.getLsbD_append, if_neg (by decide), BitVec.getLsbD_append, if_neg (by decide),
    BitVec.getLsbD_append, if_neg (by decide)]
  rfl

/-- Bit 2 of STAT reads the flag (R113). -/
theorem statByte_bit2 (s : State) : (statByte s).getLsbD 2 = s.coin := by
  rw [statByte, BitVec.getLsbD_append, if_neg (by decide), BitVec.getLsbD_append]
  cases s.coin <;> rfl

/-- A stored enable is the same bit of the byte written, three places up (R124). -/
theorem statEnables_getLsbD (d : Byte) (k : Nat) (hk : k < 4) : (statEnables d).getLsbD k = d.getLsbD (3 + k) := by
  simp [statEnables, hk]

/-- The height is 8 or 16 (R180). -/
theorem objHeight_cases (s : State) : objHeight s = 8 ∨ objHeight s = 16 := by
  unfold objHeight; split
  · exact .inr rfl
  · exact .inl rfl

/-- `MemWrite` to VRAM keeps the canonical form (R10, R42). -/
theorem storeVram_wf {s : State} (a : Offset) (d : Byte) (h : Memory.wf Config.vramSize s.vram) :
    Memory.wf Config.vramSize (storeVram (vramOffset a) d s).vram :=
  Memory.write_wf d h (vramOffset_lt a)

/-- `MemWrite` to OAM keeps the canonical form (R10, R42). -/
theorem storeOam_wf {s : State} (a : Offset) (d : Byte) (h : Memory.wf Config.oamSize s.oam) :
    Memory.wf Config.oamSize (storeOam (oamOffset a) d s).oam :=
  Memory.write_wf d h (oamOffset_lt a)

/-- A pixel of a visible line keeps the canonical form of the frame buffer (R43, R245). -/
theorem storePixel_wf {s : State} {row : Byte} {col : Nat} (shade : Shade) (hr : row.toNat ≤ 143) (hc : col < 160)
    (h : Memory.wf Config.fbSize s.fb) : Memory.wf Config.fbSize (storePixel row col shade s).fb :=
  Memory.write_wf shade h (pixelKey_lt hr hc)

/-- The memories at power-on are in canonical form, with nothing listed (R45). -/
theorem reset_memories_wf :
    Memory.wf Config.vramSize State.reset.vram ∧ Memory.wf Config.oamSize State.reset.oam ∧
      Memory.wf Config.fbSize State.reset.fb :=
  ⟨Memory.nil_wf _, Memory.nil_wf _, Memory.nil_wf _⟩

end Sys2Proof.Machine
end

