-- ==== Sys2Proof/Laws/PerInstr.lean ====
section
/-! SUPPORT. One law per constructor: the encoder writes each request into the row of the opcode table that carries its
name, and into no other row. -/

namespace Sys2Proof.Laws.EncodedRow

/-- The rows that cover the encoded word are the one row of the instruction's mnemonic. -/
def Statement (i : Instr) : Prop :=
  (opcodeTable.filter (fun row => row.covers (encode i).word)).map Row.mnemonic = [mnemonic i]

/-- The kind field of an encoded word. -/
theorem kind_of_word (k : BitVec 3) (a : Offset) : (k ++ a).extractLsb' 16 3 = k := by
  apply BitVec.eq_of_getLsbD_eq; intro i hi
  rw [BitVec.getLsbD_extractLsb', BitVec.getLsbD_append, if_neg (by omega), Nat.add_sub_cancel_left]
  simp [hi]

/-- A row whose mask holds the kind covers words of its own kind only. -/
theorem kind_of_covers {row : Row} {k : BitVec 3} {a : Offset} (hm : row.mask.extractLsb' 16 3 = 7)
    (hk : row.bits.extractLsb' 16 3 ≠ k) : row.covers (k ++ a) = false := by
  rw [Row.covers, beq_eq_false_iff_ne]
  intro h
  apply hk
  rw [← h, BitVec.extractLsb'_and, hm, kind_of_word]
  exact BitVec.and_allOnes

/-- The register rows cover no word of a memory port. -/
theorem registerRows_port (k : BitVec 3) (a : Offset) (hk : 3 ≤ k.toNat) :
    registerRows.filter (fun row => row.covers (k ++ a)) = [] := by
  rw [List.filter_eq_nil_iff]
  intro row hr
  have h : ∀ row ∈ registerRows, row.mask.extractLsb' 16 3 = 7 ∧ (row.bits.extractLsb' 16 3).toNat < 3 := by decide
  obtain ⟨h1, h2⟩ := h row hr
  rw [kind_of_covers h1 (fun h0 => by rw [h0] at h2; omega)]
  exact Bool.false_ne_true

/-- A port row covers every word of its kind. -/
theorem port_covers (name : String) (k : BitVec 3) (a : Offset) :
    (Row.mk name 0x70000 (k ++ (0 : Offset))).covers (k ++ a) = true := by
  rw [Row.covers, beq_iff_eq]
  show (k ++ a) &&& ((7 : BitVec 3) ++ (0 : Offset)) = k ++ (0 : Offset)
  rw [BitVec.and_append]
  congr 1
  · exact BitVec.and_allOnes
  · exact BitVec.and_zero

/-- The port rows that cover a word of a memory port: the one of its kind. -/
theorem portRows_port (k : BitVec 3) (a : Offset) :
    portRows.filter (fun row => row.covers (k ++ a)) = portRows.filter (fun row => row.bits.extractLsb' 16 3 == k) := by
  apply List.filter_congr
  intro row hr
  have h : ∀ row ∈ portRows, row.mask = 0x70000 ∧ row.bits = row.bits.extractLsb' 16 3 ++ (0 : Offset) := by decide
  obtain ⟨h1, h2⟩ := h row hr
  by_cases hb : row.bits.extractLsb' 16 3 = k
  · have := port_covers row.mnemonic k a
    rw [hb] at h2
    rw [beq_iff_eq.mpr hb, ← this, ← h1, ← h2]
  · rw [kind_of_covers (by rw [h1]; decide) hb, beq_eq_false_iff_ne.mpr hb]

/-- The rows that cover a word of a memory port. -/
theorem rows_port (k : BitVec 3) (a : Offset) (hk : 3 ≤ k.toNat) :
    (opcodeTable.filter (fun row => row.covers (k ++ a))).map Row.mnemonic =
      (portRows.filter (fun row => row.bits.extractLsb' 16 3 == k)).map Row.mnemonic := by
  rw [opcodeTable, List.filter_append, registerRows_port k a hk, portRows_port k a, List.nil_append]

/-- The rows that cover a given word. -/
abbrev rowsOf (k : BitVec 3) (a : Offset) : List String :=
  (opcodeTable.filter (fun row => row.covers (k ++ a))).map Row.mnemonic

theorem step : Statement .step := show rowsOf 0 0 = ["STEP"] by decide

theorem rdLcdc : Statement .rdLcdc := show rowsOf 1 0 = ["RD_LCDC"] by decide

theorem rdStat : Statement .rdStat := show rowsOf 1 1 = ["RD_STAT"] by decide

theorem rdScy : Statement .rdScy := show rowsOf 1 2 = ["RD_SCY"] by decide

theorem rdScx : Statement .rdScx := show rowsOf 1 3 = ["RD_SCX"] by decide

theorem rdLy : Statement .rdLy := show rowsOf 1 4 = ["RD_LY"] by decide

theorem rdLyc : Statement .rdLyc := show rowsOf 1 5 = ["RD_LYC"] by decide

theorem rdBgp : Statement .rdBgp := show rowsOf 1 7 = ["RD_BGP"] by decide

theorem rdObp0 : Statement .rdObp0 := show rowsOf 1 8 = ["RD_OBP0"] by decide

theorem rdObp1 : Statement .rdObp1 := show rowsOf 1 9 = ["RD_OBP1"] by decide

theorem rdWy : Statement .rdWy := show rowsOf 1 10 = ["RD_WY"] by decide

theorem rdWx : Statement .rdWx := show rowsOf 1 11 = ["RD_WX"] by decide

theorem wrLcdc (d : Byte) : Statement (.wrLcdc d) := show rowsOf 2 0 = ["WR_LCDC"] by decide

theorem wrStat (d : Byte) : Statement (.wrStat d) := show rowsOf 2 1 = ["WR_STAT"] by decide

theorem wrScy (d : Byte) : Statement (.wrScy d) := show rowsOf 2 2 = ["WR_SCY"] by decide

theorem wrScx (d : Byte) : Statement (.wrScx d) := show rowsOf 2 3 = ["WR_SCX"] by decide

theorem wrLy (d : Byte) : Statement (.wrLy d) := show rowsOf 2 4 = ["WR_LY"] by decide

theorem wrLyc (d : Byte) : Statement (.wrLyc d) := show rowsOf 2 5 = ["WR_LYC"] by decide

theorem wrBgp (d : Byte) : Statement (.wrBgp d) := show rowsOf 2 7 = ["WR_BGP"] by decide

theorem wrObp0 (d : Byte) : Statement (.wrObp0 d) := show rowsOf 2 8 = ["WR_OBP0"] by decide

theorem wrObp1 (d : Byte) : Statement (.wrObp1 d) := show rowsOf 2 9 = ["WR_OBP1"] by decide

theorem wrWy (d : Byte) : Statement (.wrWy d) := show rowsOf 2 10 = ["WR_WY"] by decide

theorem wrWx (d : Byte) : Statement (.wrWx d) := show rowsOf 2 11 = ["WR_WX"] by decide

theorem vrd (a : Offset) : Statement (.vrd a) := (rows_port 3 a (by decide)).trans rfl

theorem vwr (a : Offset) (d : Byte) : Statement (.vwr a d) := (rows_port 4 a (by decide)).trans rfl

theorem ord (a : Offset) : Statement (.ord a) := (rows_port 5 a (by decide)).trans rfl

theorem owr (a : Offset) (d : Byte) : Statement (.owr a d) := (rows_port 6 a (by decide)).trans rfl

theorem dma (a : Offset) (d : Byte) : Statement (.dma a d) := (rows_port 7 a (by decide)).trans rfl

end Sys2Proof.Laws.EncodedRow
end

