-- ==== Sys2Proof/Laws/Scanner.lean ====
section
/-! SUPPORT. What the OAM scan can do: the stable insertion, and the frame of the scan. -/

namespace Sys2Proof.Machine

/-- Insertion adds exactly its entry. -/
theorem insertByX_perm (e : Sprite) (l : List Sprite) : (insertByX e l).Perm (e :: l) := by
  induction l with
  | nil => exact List.Perm.refl _
  | cons f rest ih =>
    simp only [insertByX]
    split
    · exact List.Perm.refl _
    · exact (ih.cons f).trans (List.Perm.swap e f rest)

/-- The sort keeps the entries. -/
theorem sortByX_perm (l : List Sprite) : (sortByX l).Perm l := by
  induction l with
  | nil => exact List.Perm.refl _
  | cons e rest ih => exact (insertByX_perm e (sortByX rest)).trans (ih.cons e)

/-- The sort keeps the number of entries. -/
@[simp] theorem sortByX_length (l : List Sprite) : (sortByX l).length = l.length := (sortByX_perm l).length_eq

/-- An entry put into a sorted queue whose entries all come later in the table leaves it sorted. -/
theorem insertByX_sorted (e : Sprite) (l : List Sprite) (hl : l.Pairwise spriteBefore)
    (hi : ∀ f ∈ l, e.oamIndex < f.oamIndex) : (insertByX e l).Pairwise spriteBefore := by
  induction l with
  | nil => simp [insertByX]
  | cons f rest ih =>
    obtain ⟨hf, hr⟩ := List.pairwise_cons.1 hl
    simp only [insertByX]
    split
    · rename_i hle
      refine List.pairwise_cons.2 ⟨fun g hg => ?_, hl⟩
      have hx : e.x.toNat ≤ g.x.toNat := by
        rcases List.mem_cons.1 hg with rfl | hg
        · exact hle
        · rcases hf g hg with h | ⟨h, -⟩
          · omega
          · rw [← h]; exact hle
      rcases Nat.lt_or_eq_of_le hx with h | h
      · exact .inl h
      · exact .inr ⟨BitVec.eq_of_toNat_eq h, hi g hg⟩
    · rename_i hgt
      refine List.pairwise_cons.2 ⟨fun g hg => ?_, ih hr fun g hg => hi g (by simp [hg])⟩
      rcases List.mem_cons.1 ((insertByX_perm e rest).mem_iff.1 hg) with rfl | hg
      · exact .inl (by omega)
      · exact hf g hg

/-- The sort of entries in table order is the order of the queue (R183). -/
theorem sortByX_sorted (l : List Sprite) (hl : l.Pairwise (fun e f => e.oamIndex < f.oamIndex)) :
    (sortByX l).Pairwise spriteBefore := by
  induction l with
  | nil => exact List.Pairwise.nil
  | cons e rest ih =>
    obtain ⟨he, hr⟩ := List.pairwise_cons.1 hl
    exact insertByX_sorted e _ (ih hr) fun f hf => he f ((sortByX_perm rest).mem_iff.1 hf)

/-- The entries a scan takes are in table order. -/
theorem scanLine_table_order (s : State) : (scanLine s).Pairwise (fun e f => e.oamIndex < f.oamIndex) := by
  refine List.Pairwise.sublist (List.take_sublist _ _) (List.Pairwise.sublist List.filter_sublist ?_)
  rw [List.pairwise_map]
  exact List.pairwise_lt_range

/-- At most ten entries (R182). -/
theorem scanLine_length_le (s : State) : (scanLine s).length ≤ 10 := by
  simp only [scanLine, List.length_take]; omega

/-- The queue a scan leaves is sorted (R183). -/
theorem oamScan_sorted (s : State) : (oamScan s).queue.Pairwise spriteBefore :=
  sortByX_sorted _ (scanLine_table_order s)

/-- The queue a scan leaves has at most ten entries (R182). -/
theorem oamScan_length_le (s : State) : (oamScan s).queue.length ≤ 10 := by
  simpa [oamScan] using scanLine_length_le s

end Sys2Proof.Machine
end

