-- ==== Sys2Proof/Tests/Slice0.lean ====
section
/-! SUPPORT. Tests: ill-formed words, decoding against words written out from the rules, one step of each request against the
vectors of 95_test_vectors.md, and for each statement with hypotheses a concrete state that meets them. -/

namespace Sys2Proof.Tests

open Sys2Proof.Machine

/-! ## Ill-formed words (R85, vector RG-6) -/

theorem test_wellFormed_step : (Request.mk 0x00000 0).wellFormed = true := by decide
theorem test_wellFormed_last_select : (Request.mk 0x1000B 0).wellFormed = true := by decide
theorem test_wellFormed_port : (Request.mk 0x3FFFF 0).wellFormed = true := by decide
theorem test_illFormed_step_addr :
    (Request.mk 0x00001 0).stepAddrOk = false ∧ (Request.mk 0x00001 0).wellFormed = false ∧
      decode (Request.mk 0x00001 0) = .error .stepAddrNotZero :=
  ⟨by decide, by decide, rfl⟩
theorem test_illFormed_read_select_6 :
    (Request.mk 0x10006 0).readSelectOk = false ∧ (Request.mk 0x10006 0).wellFormed = false ∧
      decode (Request.mk 0x10006 0) = .error .noSuchRegister :=
  ⟨by decide, by decide, rfl⟩
theorem test_illFormed_read_select_12 :
    (Request.mk 0x1000C 0).readSelectOk = false ∧ decode (Request.mk 0x1000C 0) = .error .noSuchRegister :=
  ⟨by decide, rfl⟩
theorem test_illFormed_write_select :
    (Request.mk 0x2FFFF 0).writeSelectOk = false ∧ (Request.mk 0x2FFFF 0).wellFormed = false ∧
      decode (Request.mk 0x2FFFF 0) = .error .noSuchRegister :=
  ⟨by decide, by decide, rfl⟩

/-! ## Decoding: kind in bits 18..16, select or offset in bits 15..0 (R80 to R84), written out bit by bit -/

theorem test_decode_step : decode ⟨0b000_0000000000000000, 0⟩ = .ok .step := rfl
theorem test_decode_rdLcdc : decode ⟨0b001_0000000000000000, 0⟩ = .ok .rdLcdc := rfl
theorem test_decode_rdStat : decode ⟨0b001_0000000000000001, 0⟩ = .ok .rdStat := rfl
theorem test_decode_rdScy : decode ⟨0b001_0000000000000010, 0⟩ = .ok .rdScy := rfl
theorem test_decode_rdScx : decode ⟨0b001_0000000000000011, 0⟩ = .ok .rdScx := rfl
theorem test_decode_rdLy : decode ⟨0b001_0000000000000100, 0⟩ = .ok .rdLy := rfl
theorem test_decode_rdLyc : decode ⟨0b001_0000000000000101, 0⟩ = .ok .rdLyc := rfl
theorem test_decode_rdBgp : decode ⟨0b001_0000000000000111, 0⟩ = .ok .rdBgp := rfl
theorem test_decode_rdObp0 : decode ⟨0b001_0000000000001000, 0⟩ = .ok .rdObp0 := rfl
theorem test_decode_rdObp1 : decode ⟨0b001_0000000000001001, 0⟩ = .ok .rdObp1 := rfl
theorem test_decode_rdWy : decode ⟨0b001_0000000000001010, 0⟩ = .ok .rdWy := rfl
theorem test_decode_rdWx : decode ⟨0b001_0000000000001011, 0⟩ = .ok .rdWx := rfl
theorem test_decode_wrLcdc : decode ⟨0b010_0000000000000000, 0x91⟩ = .ok (.wrLcdc 0x91) := rfl
theorem test_decode_wrStat : decode ⟨0b010_0000000000000001, 0x78⟩ = .ok (.wrStat 0x78) := rfl
theorem test_decode_wrScy : decode ⟨0b010_0000000000000010, 0x10⟩ = .ok (.wrScy 0x10) := rfl
theorem test_decode_wrScx : decode ⟨0b010_0000000000000011, 0x03⟩ = .ok (.wrScx 0x03) := rfl
theorem test_decode_wrLy : decode ⟨0b010_0000000000000100, 0x50⟩ = .ok (.wrLy 0x50) := rfl
theorem test_decode_wrLyc : decode ⟨0b010_0000000000000101, 0x07⟩ = .ok (.wrLyc 0x07) := rfl
theorem test_decode_wrBgp : decode ⟨0b010_0000000000000111, 0xE4⟩ = .ok (.wrBgp 0xE4) := rfl
theorem test_decode_wrObp0 : decode ⟨0b010_0000000000001000, 0x1B⟩ = .ok (.wrObp0 0x1B) := rfl
theorem test_decode_wrObp1 : decode ⟨0b010_0000000000001001, 0xE4⟩ = .ok (.wrObp1 0xE4) := rfl
theorem test_decode_wrWy : decode ⟨0b010_0000000000001010, 0x40⟩ = .ok (.wrWy 0x40) := rfl
theorem test_decode_wrWx : decode ⟨0b010_0000000000001011, 0xA6⟩ = .ok (.wrWx 0xA6) := rfl
theorem test_decode_vrd : decode ⟨0b011_0001100000000101, 0⟩ = .ok (.vrd 0x1805) := rfl
theorem test_decode_vwr : decode ⟨0b100_0010000000000101, 0x11⟩ = .ok (.vwr 0x2005 0x11) := rfl
theorem test_decode_ord : decode ⟨0b101_0000000010011111, 0⟩ = .ok (.ord 0x009F) := rfl
theorem test_decode_owr : decode ⟨0b110_1111111111111111, 0x12⟩ = .ok (.owr 0xFFFF 0x12) := rfl
theorem test_decode_dma : decode ⟨0b111_0000000010011111, 0x5A⟩ = .ok (.dma 0x009F 0x5A) := rfl

/-- No word lies in two rows of the opcode table. -/
theorem test_opcodeTable_disjoint :
    opcodeTable.Pairwise (fun a b => a.mask &&& b.mask &&& (a.bits ^^^ b.bits) ≠ 0) := by decide
theorem test_opcodeTable_length : opcodeTable.length = 28 := by decide

/-- The table's numbering: the data byte stands above the three bytes of the word (entry 3). -/
theorem test_decodeTableWord_wrLyc : decodeTableWord 32 0x42020005 = some (.wrLyc 0x42) := by decide
theorem test_decodeTableWord_short : decodeTableWord 24 0x42020005 = some (.wrLyc 0x00) := by decide

/-- The syntax of R87. -/
theorem test_assemblyText : assemblyText (.wrLyc 7) = "WR LYC, 7" := by decide
/-- The wrap is the model's choice (entry 17). -/
theorem test_expandPseudo_vfill :
    expandPseudo (.vfill 0xFFFF 2 0x5A) = [.vwr 0xFFFF 0x5A, .vwr 0x0000 0x5A] := by decide

/-! ## Small states -/

/-- The next state of an outcome that has one. -/
def nextOf (o : Host.Outcome State Fault Refusal) : State :=
  match o with
  | .next t => t
  | .fault _ => State.reset
  | .refused _ => State.reset

/-- The request answers a next state. -/
abbrev runs (i : Instr) (s : State) : Prop := exec i s = .next (nextOf (exec i s))

/-- The byte a request returns. -/
def dataOf (o : Host.Outcome State Fault Refusal) : Option Byte := (nextOf o).out.data

/-- Power-on with the display off, as `WR LCDC, 0x11` leaves it. -/
def off : State := { State.reset with lcdc := 0x11, mode := .hblank }

/-- HBLANK of a visible line. -/
def hblankAt (ly : Byte) (dot : Nat) : State :=
  { State.reset with mode := .hblank, ly := ly, dot := dot, coin := false, lyc := 200 }

/-- VBLANK. -/
def vblankAt (ly : Byte) (dot : Nat) : State := { State.reset with ly := ly, dot := dot, coin := false, lyc := 200 }

/-- OAM_SEARCH of line 0. -/
def searchAt (dot : Nat) : State := { State.reset with mode := .oamSearch, dot := dot }

/-- PIXEL_TRANSFER of line 0 as the first load of the pair is due, dot 87. -/
def transferLoading : State :=
  { State.reset with mode := .pixelTransfer, dot := 87, fphase := .push, fsub := true, loLatch := 0x55, hiLatch := 0x33 }

/-- PIXEL_TRANSFER with the pair holding pixels and the fetcher counting. -/
def transferFilled : State :=
  { State.reset with mode := .pixelTransfer, dot := 88, cursor := 1, bgLo := 0xAA, bgHi := 0x66, bgCount := 7 }

/-- The last pixel of a line is due. -/
def transferLast : State :=
  { State.reset with mode := .pixelTransfer, dot := 246, cursor := 159, bgCount := 1, fphase := .push, fsub := true }

/-- A sprite of line 0. -/
def sprite (x : Byte) : Sprite := { y := 16, x := x, tile := 2, attr := 0, oamIndex := 0 }

/-- PIXEL_TRANSFER at dot 80 with one sprite in the queue. -/
def transferSprite (x : Byte) : State :=
  { State.reset with lcdc := 0x93, mode := .pixelTransfer, dot := 80, queue := [sprite x] }

/-- A sprite fetch in progress. -/
def transferFetching : State := { transferSprite 8 with dot := 81, sactive := true, ssub := true }

/-- PIXEL_TRANSFER at the column where the window starts. -/
def transferWindow : State :=
  { State.reset with
    lcdc := 0xB1, mode := .pixelTransfer, dot := 90, wx := 8, winLine := true, cursor := 1, bgCount := 5, fphase := .lo }

/-- What the invariant asks, as a condition that can be evaluated. -/
abbrev checks (s : State) : Prop :=
  s.faulted = false ∧ s.dot < 456 ∧ s.ly.toNat ≤ 153 ∧ s.coin = (s.ly == s.lyc) ∧
  (lcdOn s = false → s.ly = 0 ∧ s.dot = 0 ∧ s.mode = .hblank) ∧
  (s.mode ≠ .vblank → s.ly.toNat ≤ 143) ∧
  (s.mode = .oamSearch → s.dot < 80) ∧
  (s.mode = .pixelTransfer → 80 ≤ s.dot ∧ s.cursor < 160 ∧ s.dot + transferDotsLeft s ≤ 331) ∧
  s.queue.length ≤ 10 ∧
  s.queue.Pairwise (fun e f => e.x.toNat < f.x.toNat ∨ (e.x = f.x ∧ e.oamIndex < f.oamIndex)) ∧
  s.head ≤ s.queue.length ∧ s.bgCount ≤ 8 ∧ s.discard ≤ 7 ∧ s.cursor ≤ 160 ∧
  (s.sactive = true → s.mode = .pixelTransfer ∧ s.head < s.queue.length ∧ s.savedPhase = s.fphase) ∧
  s.slots.length = 10 ∧ (∀ k ∈ s.slots, k.count ≤ 8) ∧
  Memory.wf Config.vramSize s.vram ∧ Memory.wf Config.oamSize s.oam ∧ Memory.wf Config.fbSize s.fb

theorem inv_of_checks {s : State} (h : checks s) : Inv s := by
  obtain ⟨h1, h2, h3, h4, h5, h6, h7, h8, h9, h10, h11, h12, h13, h14, h15, h16, h17, h18, h19, h20⟩ := h
  exact ⟨h1, h2, h3, h4, h5, h6, h7, h8, h9, h10, h11, h12, h13, h14, h15, h16, h17, h18, h19, h20⟩

/-- The condition of a sprite trigger, as one that can be evaluated. -/
abbrev reaches (s : State) : Prop :=
  s.lcdc.getLsbD 1 = true ∧ (s.queue[s.head]?).any (fun e => decide ((e.x.toNat : Int) - 8 ≤ (s.cursor : Int))) = true

theorem spriteTriggers_iff (s : State) : spriteTriggers s ↔ reaches s := by
  unfold spriteTriggers reaches
  cases s.queue[s.head]? <;> simp

theorem plainDot_of {s : State} (h : transferring s ∧ s.sactive = false ∧ ¬ reaches s ∧ ¬ windowStarts s) : plainDot s :=
  ⟨h.1, h.2.1, fun h0 => h.2.2.1 ((spriteTriggers_iff s).mp h0), h.2.2.2⟩

theorem inv_off : Inv off := inv_of_checks (by decide)
theorem inv_hblank_143_455 : Inv (hblankAt 143 455) := inv_of_checks (by decide)
theorem inv_hblank_5_300 : Inv (hblankAt 5 300) := inv_of_checks (by decide)
theorem inv_vblank_153_455 : Inv (vblankAt 153 455) := inv_of_checks (by decide)
theorem inv_search_0 : Inv (searchAt 0) := inv_of_checks (by decide)
theorem inv_search_79 : Inv (searchAt 79) := inv_of_checks (by decide)
theorem inv_transferLoading : Inv transferLoading := inv_of_checks (by decide)
theorem inv_transferFilled : Inv transferFilled := inv_of_checks (by decide)
theorem inv_transferLast : Inv transferLast := inv_of_checks (by decide)
theorem inv_transferSprite_8 : Inv (transferSprite 8) := inv_of_checks (by decide)
theorem inv_transferSprite_168 : Inv (transferSprite 168) := inv_of_checks (by decide)
theorem inv_transferFetching : Inv transferFetching := inv_of_checks (by decide)
theorem inv_transferWindow : Inv transferWindow := inv_of_checks (by decide)

/-! ## One request against the vectors -/

/-- RG-1. -/
theorem test_reads_power_on :
    dataOf (exec .rdLcdc State.reset) = some 0x91 ∧ dataOf (exec .rdStat State.reset) = some 0x85 ∧
    dataOf (exec .rdLy State.reset) = some 0x00 ∧ dataOf (exec .rdBgp State.reset) = some 0xE4 ∧
    dataOf (exec .rdScy State.reset) = some 0x00 ∧ dataOf (exec .rdScx State.reset) = some 0x00 ∧
    dataOf (exec .rdLyc State.reset) = some 0x00 ∧ dataOf (exec .rdWy State.reset) = some 0x00 ∧
    dataOf (exec .rdWx State.reset) = some 0x00 := by decide
/-- RG-2. -/
theorem test_wrStat : dataOf (exec .rdStat (nextOf (exec (.wrStat 0xFF) State.reset))) = some 0xFD := by decide
/-- RG-3. -/
theorem test_wrLy :
    dataOf (exec .rdLy (nextOf (exec (.wrLy 0x50) State.reset))) = some 0x00 ∧
      (nextOf (exec (.wrLy 0x50) State.reset)).refused = false := by decide
/-- RG-4, the display switched off. -/
theorem test_wrLcdc_off :
    dataOf (exec .rdStat (nextOf (exec (.wrLcdc 0x11) State.reset))) = some 0x84 ∧
      dataOf (exec .rdLy (nextOf (exec (.wrLcdc 0x11) State.reset))) = some 0x00 := by decide
/-- RG-4, the display switched on. -/
theorem test_wrLcdc_on :
    dataOf (exec .rdStat (nextOf (exec (.wrLcdc 0x91) off))) = some 0x86 ∧
      (nextOf (exec (.wrLcdc 0x91) off)).out.stat = false := by decide
/-- RG-5, with STAT holding 0x40 and the flag down. -/
theorem test_wrLyc :
    (nextOf (exec (.wrLyc 0) { State.reset with statEn := 8, lyc := 1, coin := false })).out.stat = true ∧
      (nextOf (exec (.wrLyc 1) { State.reset with statEn := 8 })).coin = false := by decide
/-- RG-7. -/
theorem test_wrObp0 : dataOf (exec .rdObp0 (nextOf (exec (.wrObp0 0x1B) State.reset))) = some 0x1B := by decide
/-- RG-7. -/
theorem test_wrObp1 : dataOf (exec .rdObp1 (nextOf (exec (.wrObp1 0xE4) State.reset))) = some 0xE4 := by decide
/-- RG-10. -/
theorem test_wrScy : dataOf (exec .rdScy (nextOf (exec (.wrScy 0x10) State.reset))) = some 0x10 := by decide
/-- RG-10. -/
theorem test_wrWx : dataOf (exec .rdWx (nextOf (exec (.wrWx 0x07) State.reset))) = some 0x07 := by decide
/-- RG-10. -/
theorem test_wrWy : dataOf (exec .rdWy (nextOf (exec (.wrWy 0x40) State.reset))) = some 0x40 := by decide
/-- R115, its example. -/
theorem test_wrScx : dataOf (exec .rdScx (nextOf (exec (.wrScx 0xFF) State.reset))) = some 0xFF := by decide
/-- R129. -/
theorem test_wrBgp : (nextOf (exec (.wrBgp 0x1B) State.reset)).bgp = 0x1B := by decide
/-- VM-4. -/
theorem test_vwr_wraps : dataOf (exec (.vrd 0xE005) (nextOf (exec (.vwr 0x2005 0x11) off))) = some 0x11 := by decide
/-- VM-2, VM-3. -/
theorem test_vram_gated :
    dataOf (exec (.vrd 0x1800) transferFilled) = some 0xFF ∧
      (nextOf (exec (.vwr 0x0000 0xA5) transferFilled)).vram = [] := by decide
/-- VM-7. -/
theorem test_owr_wraps :
    dataOf (exec (.ord 0x00) (nextOf (exec (.owr 0xA0 0x77) off))) = some 0x77 ∧
      dataOf (exec (.ord 0x5F) (nextOf (exec (.owr 0xFFFF 0x12) off))) = some 0x12 := by decide
/-- VM-5, VM-6. -/
theorem test_oam_gated :
    dataOf (exec (.ord 0x00) (searchAt 10)) = some 0xFF ∧ dataOf (exec (.ord 0x00) transferFilled) = some 0xFF ∧
      (nextOf (exec (.owr 0x00 0x44) (searchAt 0))).oam = [] := by decide
/-- VM-8. -/
theorem test_dma :
    (nextOf (exec (.dma 0x9F 0x5A) transferFilled)).oam = [(159, 0x5A)] ∧
      (nextOf (exec (.dma 0x00 0x10) (searchAt 5))).queue = [] := by decide
/-- SQ-1, its last step. -/
theorem test_step_ends_line :
    (nextOf (exec .step { State.reset with dot := 455 })).ly = 1 ∧
      (nextOf (exec .step { State.reset with dot := 455 })).dot = 0 := by decide
/-- SQ-5, its last step. -/
theorem test_step_enters_vblank :
    (nextOf (exec .step (hblankAt 143 455))).out.vblank = true ∧ (nextOf (exec .step (hblankAt 143 455))).ly = 0x90 ∧
      (nextOf (exec .step (hblankAt 143 455))).mode = .vblank := by decide
/-- BF-1, BF-8: the pair loads at dot 87 and its first pixel, index 0, is written in the same dot. -/
theorem test_step_loads :
    (nextOf (exec .step transferLoading)).bgCount = 7 ∧ (nextOf (exec .step transferLoading)).cursor = 1 := by decide

/-- BF-2 to BF-7. -/
theorem test_mapAddr :
    mapAddr { State.reset with lcdc := 0x99, scx := 0x10, scy := 0x08 } = 0x1C22 ∧
      mapAddr { State.reset with scx := 0xF8, bgTile := 1 } = 0x1800 ∧
      mapAddr { State.reset with ly := 143, scy := 0x80 } = 0x1820 := by decide
theorem test_dataAddr :
    dataAddr { State.reset with lcdc := 0x81, tileLatch := 0x7F, ly := 7 } = 0x17FE ∧
      dataAddr { State.reset with lcdc := 0x81, tileLatch := 0x80 } = 0x0800 ∧
      dataAddr { State.reset with tileLatch := 0xFF, ly := 7 } = 0x0FFE := by decide
/-- SP-12, SP-13. -/
theorem test_spriteRowAddr :
    spriteRowAddr { State.reset with lcdc := 0x97 } { sprite 8 with tile := 4, attr := 0x40 } = 0x5E ∧
      spriteRowAddr { State.reset with lcdc := 0x97 } { sprite 8 with y := 5, tile := 4 } = 0x56 := by decide
/-- OS-2, OS-3 at the ends of their ranges. -/
theorem test_spriteVisible :
    spriteVisible 0 9 8 = true ∧ spriteVisible 1 9 8 = false ∧ spriteVisible 0 8 8 = false ∧ spriteVisible 143 159 8 = true ∧
      spriteVisible 143 160 8 = false ∧ spriteVisible 0 1 16 = true ∧ spriteVisible 1 1 16 = false ∧
      spriteVisible 0 0 16 = false := by decide
/-- OS-5. -/
theorem test_oamScan_order :
    ((oamScan { State.reset with oam := [(0, 16), (1, 30), (4, 16), (5, 10), (8, 16), (9, 30)] }).queue.map
      Sprite.oamIndex) = [1, 0, 2] := by decide
/-- MX-3, MX-4 and MX-9: the pixel of a background index 3 with the named slots. -/
theorem test_mixShade :
    let s : State := { State.reset with lcdc := 0x93, obp0 := 0xD2, obp1 := 0x1B, bgLo := 0xFF, bgHi := 0xFF, bgCount := 8 }
    let one : Slot := { lo := 0xFF, hi := 0, count := 8, attr := 0x80 }
    let two : Slot := { lo := 0, hi := 0xFF, count := 8, attr := 0x10 }
    mixShade { s with queue := [sprite 8], slots := [one] } = 3 ∧
      mixShade { s with queue := [sprite 8], slots := [two] } = 1 ∧
      mixShade { s with queue := [sprite 8, sprite 8], slots := [one, two] } = 3 := by decide

/-- R241, R242, R202: the index is `2 * hi[7] + lo[7]`; the high plane counts 2, and bit 7 is the pixel shown. -/
theorem test_topIndex : topIndex 0x80 0x00 = 2 ∧ topIndex 0x00 0x80 = 1 ∧ topIndex 0x7F 0x7F = 0 := by decide

/-- The first step after reset, with a word placed, runs it (entry 1). -/
theorem test_placed_word :
    dataOf (step (State.reset.withFetchWord 24 0x010000)) = some 0x91 ∧
      (nextOf (step (State.reset.withFetchWord 32 0x10020002))).scy = 0x10 ∧
      (nextOf (step (State.reset.withFetchWord 24 0x010006))).refused = true := by decide

/-! ## Witnesses: for each statement with hypotheses, inputs that meet all of them -/

theorem witness_DecodedWordLiesInItsTableRowAlone : decode ⟨0x31805, 0⟩ = .ok (.vrd 0x1805) := rfl
/-- The state that holds one request. -/
def holding (r : Request) : State := { State.reset with requests := [r] }

theorem witness_ReservedWords_state :
    (holding ⟨0x10006, 0⟩).faulted = false ∧ (holding ⟨0x10006, 0⟩).requests = ⟨0x10006, 0⟩ :: [] := by decide
theorem witness_ReservedWords_reserved :
    let reserved (r : Request) : Bool :=
      decide ((r.kind = 0 ∧ r.addr ≠ 0) ∨ ((r.kind = 1 ∨ r.kind = 2) ∧ (r.addr = 0x6 ∨ 0xC ≤ r.addr.toNat)))
    reserved ⟨0x00001, 0⟩ = true ∧ reserved ⟨0x10006, 0⟩ = true ∧ reserved ⟨0x2000C, 0⟩ = true ∧
      reserved ⟨0x1FFFF, 0⟩ = true ∧ reserved ⟨0x00000, 0⟩ = false ∧ reserved ⟨0x1000B, 0⟩ = false ∧
      reserved ⟨0x20005, 0⟩ = false ∧ reserved ⟨0x20007, 0⟩ = false ∧ reserved ⟨0x3FFFF, 0⟩ = false := by decide
theorem witness_StepRunsTheDecodedRequest :
    (holding ⟨0x20005, 0x42⟩).faulted = false ∧ (holding ⟨0x20005, 0x42⟩).requests = ⟨0x20005, 0x42⟩ :: [] ∧
      decode ⟨0x20005, 0x42⟩ = .ok (.wrLyc 0x42) := ⟨by decide, by decide, rfl⟩
theorem witness_PlacedTableWordRunsNext :
    off.faulted = false ∧ decodeTableWord 32 0x42020005 = some (.wrLyc 0x42) := by decide
theorem witness_EveryStepKeepsTheInvariant :
    Inv (hblankAt 143 455) ∧ step (hblankAt 143 455) = .next (hblankAt 143 455) :=
  ⟨inv_hblank_143_455, rfl⟩
theorem witness_NoStepStopsTheMachine : Inv transferFetching := inv_transferFetching
theorem witness_StatReadComposesItsByte : Inv off ∧ off.lcdc.getLsbD 7 = false := ⟨inv_off, by decide⟩
theorem witness_LyReadReturnsTheLine :
    Inv off ∧ runs .step (hblankAt 143 455) ∧ off.lcdc.getLsbD 7 = false ∧ (hblankAt 143 455).mode ≠ .vblank ∧
      (nextOf (exec .step (hblankAt 143 455))).mode = .vblank :=
  ⟨inv_off, rfl, by decide⟩
theorem witness_LycWriteUpdatesTheFlag : off.coin = (off.ly == off.lyc) := by decide
theorem witness_DisplayOffRestsTheSequencer :
    transferFetching.lcdc.getLsbD 7 = true ∧ (0x13 : Byte).getLsbD 7 = false := by decide
theorem witness_DisplayOnEntersOamSearch :
    Inv off ∧ off.lcdc.getLsbD 7 = false ∧ (0x91 : Byte).getLsbD 7 = true := ⟨inv_off, by decide⟩
theorem witness_LcdcWriteWithoutPowerChange :
    (0x81 : Byte).getLsbD 7 = transferFilled.lcdc.getLsbD 7 ∧ (0x01 : Byte).getLsbD 7 = off.lcdc.getLsbD 7 := by decide
theorem witness_VramWriteIsDroppedInTransfer :
    Memory.wf Config.vramSize transferFilled.vram ∧ transferFilled.mode = .pixelTransfer ∧
      Memory.wf Config.vramSize off.vram ∧ off.mode ≠ .pixelTransfer := by decide
theorem witness_OamWriteIsDroppedInSearchAndTransfer :
    Memory.wf Config.oamSize (searchAt 0).oam ∧ (searchAt 0).mode = .oamSearch ∧ transferFilled.mode = .pixelTransfer ∧
      off.mode = .hblank ∧ State.reset.mode = .vblank := by decide
theorem witness_OamWrite_seen_by_next_scan :
    Memory.wf Config.oamSize (hblankAt 5 455).oam ∧ (hblankAt 5 455).mode = .hblank ∧
      (nextOf (exec .step (nextOf (exec (.owr 0 22) (hblankAt 5 455))))).mode = .oamSearch := by decide
theorem witness_DmaWritesOamInEveryMode : Memory.wf Config.oamSize transferFilled.oam := by decide
theorem witness_MemoriesAreOpenWhileTheDisplayIsOff : Inv off ∧ off.lcdc.getLsbD 7 = false := ⟨inv_off, by decide⟩
theorem witness_MemoriesAreWrittenThroughTheirPortsAlone :
    runs (.vwr 0 1) off ∧ runs (.dma 0 1) transferFilled ∧ (nextOf (exec (.vwr 0 1) off)).vram ≠ off.vram ∧
      (nextOf (exec (.dma 0 1) transferFilled)).oam ≠ transferFilled.oam :=
  ⟨rfl, rfl, by decide⟩
theorem witness_FrameBufferChangesOnlyAtTheCursor :
    runs .step transferFilled ∧ Memory.wf Config.fbSize transferFilled.fb ∧
      Memory.read (nextOf (exec .step transferFilled)).fb 1 ≠ Memory.read transferFilled.fb 1 :=
  ⟨rfl, by decide⟩
theorem witness_RegistersChangeOnlyByTheirOwnWrite :
    runs (.wrStat 0x40) off ∧ (nextOf (exec (.wrStat 0x40) off)).statEn ≠ off.statEn ∧
      (nextOf (exec (.wrScy 1) off)).scy ≠ off.scy :=
  ⟨rfl, by decide⟩
theorem witness_LyChangesOnlyAtLineEndOrPowerOff :
    Inv (vblankAt 153 455) ∧ runs .step (vblankAt 153 455) ∧
      (nextOf (exec .step (vblankAt 153 455))).ly ≠ (vblankAt 153 455).ly ∧
      (nextOf (exec (.wrLcdc 0x11) (hblankAt 5 300))).ly ≠ (hblankAt 5 300).ly :=
  ⟨inv_vblank_153_455, rfl, by decide⟩
theorem witness_VblankAndPresent :
    runs .step (hblankAt 143 455) :=
  rfl
theorem witness_StatRequestsHaveAnEnabledSource :
    runs .step { transferLast with statEn := 1 } ∧
      (nextOf (exec .step { transferLast with statEn := 1 })).out.stat = true ∧
      (nextOf (exec .step { hblankAt 143 455 with statEn := 2 })).out.stat = true ∧
      (nextOf (exec .step { hblankAt 5 455 with statEn := 4 })).out.stat = true ∧
      (nextOf (exec (.wrLcdc 0x91) { off with statEn := 4 })).out.stat = true ∧
      (nextOf (exec (.wrLyc 5) { hblankAt 5 300 with statEn := 8 })).out.stat = true :=
  ⟨rfl, by decide⟩
theorem witness_StartedWindowStaysOn :
    runs .step { transferFilled with winMode := true } ∧ transferFilled.mode = .pixelTransfer ∧
      (nextOf (exec .step { transferFilled with winMode := true })).mode = .pixelTransfer :=
  ⟨rfl, by decide⟩
theorem witness_StepWhileOffDoesNothing : off.lcdc.getLsbD 7 = false ∧ Inv off := ⟨by decide, inv_off⟩
theorem witness_BlankDotOnlyCounts :
    (hblankAt 5 300).lcdc.getLsbD 7 = true ∧ (hblankAt 5 300).mode = .hblank ∧ (hblankAt 5 300).dot + 1 ≠ 456 ∧
      (vblankAt 150 454).mode = .vblank ∧ (vblankAt 150 454).dot + 1 ≠ 456 := by decide
theorem witness_OamSearchCountsThenEntersTransfer :
    (searchAt 78).lcdc.getLsbD 7 = true ∧ (searchAt 78).mode = .oamSearch ∧ (searchAt 78).dot + 1 ≠ 80 ∧
      (searchAt 79).dot + 1 = 80 := by decide
theorem witness_EndOfLineAdvancesTheFrame :
    (hblankAt 143 455).lcdc.getLsbD 7 = true ∧ (hblankAt 143 455).mode = .hblank ∧ (hblankAt 143 455).dot = 455 ∧
      (vblankAt 153 455).mode = .vblank ∧ (vblankAt 153 455).dot = 455 := by decide
theorem witness_TransferEndsAtThe160thPixel :
    Inv transferLast ∧ transferring transferLast ∧ (nextOf (exec .step transferLast)).cursor = 160 ∧
      Inv transferFilled ∧ transferring transferFilled ∧ (nextOf (exec .step transferFilled)).cursor ≠ 160 :=
  ⟨inv_transferLast, by decide, by decide, inv_transferFilled, by decide, by decide⟩
theorem witness_TransferOverrun :
    transferring { transferFilled with dot := 455 } ∧ { transferFilled with dot := 455 }.dot = 455 ∧
      (nextOf (exec .step { transferFilled with dot := 455 })).cursor ≠ 160 := by decide
theorem witness_SpriteVisibility :
    ((8 : Nat) = 8 ∨ (8 : Nat) = 16) ∧ (0 : Byte) = 0 ∧ 160 ≤ (160 : Byte).toNat ∧ (143 : Byte).toNat ≤ 143 := by decide
theorem witness_TileAddressingModes :
    State.reset.lcdc.getLsbD 4 = true ∧ (transferFilled.lcdc &&& 0x81).getLsbD 4 = false ∧ (127 : Byte).toNat < 128 ∧
      128 ≤ (128 : Byte).toNat := by decide
theorem plainDot_filled (sub : Bool) (phase : FetchPhase) :
    plainDot { transferFilled with fsub := sub, fphase := phase } :=
  show plainDot transferFilled from plainDot_of (by decide)
theorem plainDot_loading (phase : FetchPhase) (discard : Nat) :
    plainDot { transferLoading with fphase := phase, discard := discard } :=
  show plainDot transferLoading from plainDot_of (by decide)
theorem witness_BackgroundFetcherPhases :
    plainDot { transferFilled with fsub := false } ∧ plainDot { transferFilled with fsub := true, fphase := .ti } ∧
      plainDot { transferFilled with fsub := true, fphase := .lo } ∧
      plainDot { transferFilled with fsub := true, fphase := .hi } ∧
      plainDot { transferFilled with fsub := true, fphase := .push } ∧ transferFilled.bgCount ≠ 0 ∧
      plainDot transferLoading ∧ transferLoading.fsub = true ∧ transferLoading.fphase = .push ∧
      transferLoading.bgCount = 0 :=
  ⟨plainDot_filled _ _, plainDot_filled _ _, plainDot_filled _ _, plainDot_filled _ _, plainDot_filled _ _, by decide,
    plainDot_loading _ _, by decide, by decide, by decide⟩
theorem witness_WindowStartRestartsTheFetch :
    Inv transferWindow ∧ transferring transferWindow ∧ transferWindow.sactive = false ∧ windowStarts transferWindow ∧
      Inv transferFilled ∧ ¬ windowStarts transferFilled ∧ 167 ≤ (167 : Byte).toNat :=
  ⟨inv_transferWindow, by decide, by decide, by decide, inv_transferFilled, by decide, by decide⟩
theorem witness_SpriteTrigger :
    Inv (transferSprite 8) ∧ transferring (transferSprite 8) ∧ (transferSprite 8).sactive = false ∧
      spriteTriggers (transferSprite 8) ∧ Inv (transferSprite 168) ∧ ¬ spriteTriggers (transferSprite 168) :=
  ⟨inv_transferSprite_8, by decide, by decide, (spriteTriggers_iff _).mpr (by decide), inv_transferSprite_168,
    fun h => absurd ((spriteTriggers_iff _).mp h) (by decide)⟩
/-- A window start and a sprite trigger on the same dot. -/
def transferBoth : State := { transferWindow with lcdc := 0xB3, queue := [sprite 9] }
theorem inv_transferBoth : Inv transferBoth := inv_of_checks (by decide)
theorem witness_window_and_sprite_on_one_dot :
    Inv transferBoth ∧ transferring transferBoth ∧ transferBoth.sactive = false ∧ windowStarts transferBoth ∧
      spriteTriggers transferBoth ∧ transferBoth.queue[transferBoth.head]? = some (sprite 9) :=
  ⟨inv_transferBoth, by decide, by decide, by decide, (spriteTriggers_iff _).mpr (by decide), by decide⟩
theorem witness_SpriteFetchStallsEverythingElse :
    Inv transferFetching ∧ transferring transferFetching ∧ transferFetching.sactive = true :=
  ⟨inv_transferFetching, by decide, by decide⟩
theorem witness_SpriteFetchTakesSixDots :
    Inv (transferSprite 8) ∧ transferring (transferSprite 8) ∧ (transferSprite 8).sactive = false ∧
      spriteTriggers (transferSprite 8) ∧ (transferSprite 8).queue[(transferSprite 8).head]? = some (sprite 8) :=
  ⟨inv_transferSprite_8, by decide, by decide, (spriteTriggers_iff _).mpr (by decide), by decide⟩
theorem witness_SpriteRowsComeFromTheirTile :
    State.reset.lcdc.getLsbD 2 = false ∧ (0x97 : Byte).getLsbD 2 = true := by decide
theorem witness_MixerArbitrates :
    let z : Slot := { lo := 0x80, hi := 0, count := 8, attr := 0 }
    isCandidate { transferSprite 8 with slots := [z] } 0 z ∧ State.reset.lcdc.getLsbD 1 = false := by decide
theorem witness_MixerStallsDiscardsOrWrites :
    plainDot transferFilled ∧ Memory.wf Config.fbSize transferFilled.fb ∧ pairCount transferFilled ≠ 0 ∧
      transferFilled.discard = 0 ∧ plainDot { transferLoading with fphase := .ti } ∧
      pairCount { transferLoading with fphase := .ti } = 0 ∧ plainDot { transferLoading with discard := 3 } ∧
      pairCount { transferLoading with discard := 3 } ≠ 0 :=
  ⟨plainDot_filled _ _, by decide, by decide, by decide, plainDot_loading _ _, by decide, plainDot_loading _ _, by decide⟩
theorem witness_StartupStall :
    (searchAt 79).lcdc.getLsbD 7 = true ∧ (searchAt 79).mode = .oamSearch ∧ (searchAt 79).dot = 79 ∧
      ((searchAt 79).lcdc.getLsbD 1 = true → ∀ e ∈ (searchAt 79).queue[0]?, 8 < e.x.toNat) := by decide
theorem witness_TransferLastsAtMost251Dots :
    Inv (searchAt 79) ∧ (searchAt 79).lcdc.getLsbD 7 = true ∧ (searchAt 79).mode = .oamSearch ∧ (searchAt 79).dot = 79 :=
  ⟨inv_search_79, by decide, by decide, by decide⟩
theorem witness_PlainLineTransferLength :
    Inv (searchAt 79) ∧ (searchAt 79).lcdc.getLsbD 7 = true ∧ (searchAt 79).mode = .oamSearch ∧ (searchAt 79).dot = 79 ∧
      (searchAt 79).lcdc.getLsbD 5 = false ∧ (searchAt 79).lcdc.getLsbD 1 = false :=
  ⟨inv_search_79, by decide, by decide, by decide, by decide, by decide⟩
theorem witness_EveryLineTakes456Steps :
    Inv (searchAt 0) ∧ (searchAt 0).lcdc.getLsbD 7 = true ∧ (searchAt 0).dot = 0 ∧ (searchAt 0).mode ≠ .vblank ∧
      (vblankAt 153 0).mode = .vblank :=
  ⟨inv_search_0, by decide, by decide, by decide, by decide⟩
theorem witness_frame_statements :
    Inv (searchAt 0) ∧ (searchAt 0).lcdc.getLsbD 7 = true ∧ (searchAt 0).mode = .oamSearch ∧ (searchAt 0).ly = 0 ∧
      (searchAt 0).dot = 0 ∧ ∀ d, Instr.wrLcdc d ∈ [Instr.step, .wrScx 3] → d.getLsbD 7 = true :=
  ⟨inv_search_0, by decide, by decide, by decide, by decide, by simp⟩
theorem witness_PresentedFrameForgetsTheOldFrameBuffer :
    Inv (searchAt 0) ∧ Memory.wf Config.fbSize ([(7, 3)] : Memory 2) ∧ (searchAt 0).mode = .oamSearch :=
  ⟨inv_search_0, by decide, by decide⟩
theorem inv_vblank_0_0 : Inv (vblankAt 0 0) := inv_of_checks (by decide)
theorem witness_PowerOnFrameIs154BlankLines :
    Inv (vblankAt 0 0) ∧ (vblankAt 0 0).lcdc.getLsbD 7 = true ∧ (vblankAt 0 0).mode = .vblank ∧ (vblankAt 0 0).ly = 0 ∧
      (vblankAt 0 0).dot = 0 :=
  ⟨inv_vblank_0_0, by decide, by decide, by decide, by decide⟩
end Sys2Proof.Tests
end

section
/-! LY (R25): what each operation that touches the line counter does to it, and what a request can do to it. Settles O31. -/

namespace Sys2Proof.Machine

/-- The line after `ly`: 153 wraps to 0 (R157). -/
def nextLy (ly : Byte) : Byte := if ly = 153 then 0 else ly + 1

@[simp] theorem nextLine_ly (s : State) : (nextLine s).ly = nextLy s.ly := rfl

theorem nextLy_le {ly : Byte} (h : ly.toNat ≤ 153) : (nextLy ly).toNat ≤ 153 := by
  unfold nextLy
  split
  · decide
  · bv_omega

/-- A STEP from this state ends its line (R150, R156). -/
abbrev endsLine (s : State) : Prop :=
  s.lcdc.getLsbD 7 = true ∧ s.dot = 455 ∧ (s.mode = .hblank ∨ s.mode = .vblank)

@[simp] theorem countDot_ly (s : State) : (countDot s).ly = s.ly := rfl

@[simp] theorem enterTransfer_ly (s : State) : (enterTransfer s).ly = s.ly := rfl

@[simp] theorem endOfLine_ly (s : State) : (endOfLine s).ly = nextLy s.ly := by simp [endOfLine]

@[simp] theorem oamDot_ly (s : State) : (oamDot s).ly = s.ly := by
  unfold oamDot
  split <;> simp

theorem blankDot_ly (s : State) : (blankDot s).ly = if s.dot = 455 then nextLy s.ly else s.ly := by
  unfold blankDot
  split
  next hlast => simp [show s.dot = 455 by omega]
  next hlast => simp [show s.dot ≠ 455 by omega]

/-- One dot keeps LY unless it ends the line. -/
theorem stepDot_ly (s : State) : (stepDot s).ly = if endsLine s then nextLy s.ly else s.ly := by
  unfold stepDot endsLine lcdOn
  split
  next hon => cases hm : s.mode <;> simp [hon, blankDot_ly]
  next hoff => exact (if_neg fun ⟨hon, _⟩ => hoff hon).symm

/-- An LCDC write keeps LY unless it turns the display off. -/
theorem switchDisplay_ly (wasOn : Bool) (s : State) :
    (switchDisplay wasOn s).ly = if wasOn && !lcdOn s then 0 else s.ly := by
  unfold switchDisplay
  split
  · rfl
  · split <;> rfl

/-- Everything a request can do to LY (R25): keep it, count it on at the end of a line, or clear it at power-off. -/
theorem exec_ly_cases {i : Instr} {s t : State} (h : exec i s = .next t) :
    t.ly = s.ly ∨ (i = .step ∧ endsLine s ∧ t.ly = nextLy s.ly) ∨
      (∃ d, i = .wrLcdc d ∧ s.lcdc.getLsbD 7 = true ∧ d.getLsbD 7 = false ∧ t.ly = 0) := by
  cases i with
  | step =>
    cases h
    by_cases he : endsLine s
    · exact .inr (.inl ⟨rfl, he, (stepDot_ly _).trans (if_pos he)⟩)
    · exact .inl ((stepDot_ly _).trans (if_neg he))
  | wrLcdc d =>
    cases h
    rw [switchDisplay_ly]
    split
    next hoff =>
      obtain ⟨hs, hd⟩ : s.lcdc.getLsbD 7 = true ∧ d.getLsbD 7 = false := by simpa [lcdOn] using hoff
      exact .inr (.inr ⟨d, rfl, hs, hd, rfl⟩)
    next => exact .inl rfl
  | vwr a d =>
    cases h
    left
    split <;> rfl
  | owr a d =>
    cases h
    left
    split <;> rfl
  | _ =>
    cases h
    exact .inl rfl

/-- Whatever a request does to LY leaves it a line of the frame. -/
theorem exec_ly_le {i : Instr} {s t : State} (h : exec i s = .next t) (hs : s.ly.toNat ≤ 153) : t.ly.toNat ≤ 153 := by
  obtain heq | ⟨-, -, heq⟩ | ⟨d, -, -, -, heq⟩ := exec_ly_cases h <;> rw [heq]
  · exact hs
  · exact nextLy_le hs
  · decide

/-- Settles O31, from the three cases of `exec_ly_cases`. -/
theorem lyChangesOnlyAtLineEndOrPowerOff : Obligations.LyChangesOnlyAtLineEndOrPowerOff := by
  intro i s t h
  refine ⟨fun hinv => ⟨hinv.ly_le, exec_ly_le h hinv.ly_le⟩, rfl, fun hne => ?_⟩
  obtain heq | ⟨hi, ⟨hon, hdot, hmode⟩, -⟩ | hoff := exec_ly_cases h
  · exact absurd heq hne
  · exact .inl ⟨hi, hon, hdot, hmode⟩
  · exact .inr hoff

end Sys2Proof.Machine
end

section
/-! The offsets the fetchers compute (R66): a bound for each part, and from them that every offset lies in VRAM.
Settles O44. -/

namespace Sys2Proof.Machine

/-- A tile map starts at one of two places (R90). -/
theorem mapBase_cases (high : Bool) : mapBase high = 0x1800 ∨ mapBase high = 0x1C00 := by
  cases high
  · exact .inl rfl
  · exact .inr rfl

theorem bgRow_lt (s : State) : bgRow s < 256 := (s.ly + s.scy).isLt

theorem mapAddr_bounds (s : State) : 0x1800 ≤ mapAddr s ∧ mapAddr s ≤ 0x1FFF := by
  unfold mapAddr
  split
  next => have := mapBase_cases (winMap s); omega
  next =>
    have := mapBase_cases (bgMap s)
    have := bgRow_lt s
    omega

/-- The last background tile starts at 0x17F0, by the signed addressing; by the unsigned one it is lower (R91). -/
theorem tileBase_le (s : State) (i : Byte) : tileBase s i ≤ 0x17F0 := by
  unfold tileBase
  split
  next => have : i.toNat < 256 := i.isLt; omega
  next => have : i.toInt < 128 := BitVec.toInt_lt; omega

theorem dataAddr_le (s : State) : dataAddr s ≤ 0x17FE := by
  have htile := tileBase_le s s.tileLatch
  unfold dataAddr
  split <;> omega

theorem spriteLine_lt (s : State) (e : Sprite) : spriteLine s e < objHeight s := by
  have hpos : 0 < objHeight s := by have := objHeight_cases s; omega
  have hrow := Nat.mod_lt (s.ly + 16 - e.y).toNat hpos
  simp only [spriteLine]
  split <;> omega

/-- A sprite's row names a tile of the table and a row of that tile (R98, R223): `tile & 0xFE` leaves room for the bottom
half's next tile. -/
theorem spriteRow_bounds (s : State) (e : Sprite) : (spriteRow s e).1 ≤ 255 ∧ (spriteRow s e).2 ≤ 7 := by
  have hline := spriteLine_lt s e
  unfold objHeight at hline
  split at hline
  next htall =>
    have heven : (e.tile &&& 0xFE).toNat ≤ 254 := by rw [BitVec.toNat_and]; exact Nat.and_le_right
    simp only [spriteRow, if_pos htall]
    omega
  next hsmall =>
    have htile : e.tile.toNat < 256 := e.tile.isLt
    simp only [spriteRow, if_neg hsmall]
    omega

theorem spriteRowAddr_le (s : State) (e : Sprite) : spriteRowAddr s e ≤ 0x0FFE := by
  obtain ⟨htile, hrow⟩ := spriteRow_bounds s e
  unfold spriteRowAddr
  omega

/-- `saddr` holds the offset of a sprite row whole (R40, R66). -/
theorem toNat_ofNat_spriteRowAddr (s : State) (e : Sprite) :
    (BitVec.ofNat 13 (spriteRowAddr s e)).toNat = spriteRowAddr s e :=
  (BitVec.toNat_ofNat _ _).trans (Nat.mod_eq_of_lt (Nat.lt_of_le_of_lt (spriteRowAddr_le s e) (by decide)))

/-- Settles O44, from the bound of each offset. -/
theorem computedOffsetsLieInVram : Obligations.ComputedOffsetsLieInVram := fun s e =>
  have ⟨hlow, hhigh⟩ := mapAddr_bounds s
  ⟨hlow, hhigh, dataAddr_le s, spriteRowAddr_le s e, toNat_ofNat_spriteRowAddr s e⟩

end Sys2Proof.Machine
end

section
/-! The memory ports while they are open (R67, R68), and that both are open while the display is off (R70). Settles
O27. -/

namespace Sys2Proof.Machine

theorem exec_vrd_of_open {s : State} (hopen : vramOpen s = true) (a : Offset) :
    exec (.vrd a) s = .next (answer (Memory.read s.vram (a.toNat % 8192)) s) := by
  rw [exec, execVrd, if_pos hopen, vramByte_vramOffset]

theorem exec_ord_of_open {s : State} (hopen : oamOpen s = true) (a : Offset) :
    exec (.ord a) s = .next (answer (Memory.read s.oam (a.toNat % 160)) s) := by
  rw [exec, execOrd, if_pos hopen, oamByte, oamOffset]

theorem exec_vwr_of_open {s : State} (hopen : vramOpen s = true) (a : Offset) (d : Byte) :
    exec (.vwr a d) s = .next (storeVram (a.toNat % 8192) d (clearOut s)) := by
  rw [exec, execVwr, if_pos hopen, vramOffset_eq]

theorem exec_owr_of_open {s : State} (hopen : oamOpen s = true) (a : Offset) (d : Byte) :
    exec (.owr a d) s = .next (storeOam (a.toNat % 160) d (clearOut s)) := by
  rw [exec, execOwr, if_pos hopen, oamOffset]

/-- With the display off the sequencer rests in HBLANK (R32), so neither gate is closed. -/
theorem Inv.open_of_off {s : State} (hinv : Inv s) (hoff : s.lcdc.getLsbD 7 = false) :
    vramOpen s = true ∧ oamOpen s = true := by
  obtain ⟨-, -, hmode⟩ := hinv.off_rest hoff
  rw [vramOpen, oamOpen, hmode]
  decide

/-- Settles O27: both gates are open, and a store gives back what was written to it. -/
theorem memoriesAreOpenWhileTheDisplayIsOff : Obligations.MemoriesAreOpenWhileTheDisplayIsOff := by
  intro s a hinv hoff
  obtain ⟨hvram, hoam⟩ := hinv.open_of_off hoff
  obtain ⟨hvramSorted, -⟩ := hinv.vram_wf
  obtain ⟨hoamSorted, -⟩ := hinv.oam_wf
  exact ⟨exec_vrd_of_open hvram a, exec_ord_of_open hoam a, fun d =>
    ⟨⟨_, exec_vwr_of_open hvram a d, Memory.read_write_same s.vram _ d hvramSorted⟩,
      ⟨_, exec_owr_of_open hoam a d, Memory.read_write_same s.oam _ d hoamSorted⟩⟩⟩

end Sys2Proof.Machine
end

section
/-! Where the rows of a tile stand in VRAM: the row a sprite takes (R98, R223, R224), and the base of a tile in each
addressing mode (R91). Settles O50 and O43. -/

namespace Sys2Proof.Machine

/-- The row of the line below the top of an entry, an 8-bit value (R223). -/
theorem toNat_lineBelowTop (ly y : Byte) : (ly + 16 - y).toNat = (ly.toNat + 16 + 256 - y.toNat) % 256 := by
  bv_omega

/-- The row of R223 over the numbers of the state's bytes. -/
theorem spriteLine_eq (s : State) (e : Sprite) :
    spriteLine s e =
      if e.attr.getLsbD 6 then objHeight s - 1 - (s.ly.toNat + 16 + 256 - e.y.toNat) % 256 % objHeight s
      else (s.ly.toNat + 16 + 256 - e.y.toNat) % 256 % objHeight s := by
  rw [← toNat_lineBelowTop]
  rfl

/-- The bottom tile of a 16-row sprite follows its top tile (R98), because the top tile has bit 0 clear. -/
theorem toNat_bottomTile (tile : Byte) : (tile ||| 0x01).toNat = (tile &&& 0xFE).toNat + 1 := by
  have hclear : (tile &&& 0xFE) &&& 0x01 = 0 := by rw [BitVec.and_assoc]; exact BitVec.and_zero
  have hset : tile ||| 0x01 = (tile &&& 0xFE) ||| 0x01 := by
    have hmask : (0xFE : Byte) = ~~~0x01 := rfl
    ext k hk
    rw [hmask, BitVec.getElem_or, BitVec.getElem_or, BitVec.getElem_and, BitVec.getElem_not]
    cases tile[k] <;> cases (0x01 : Byte)[k] <;> rfl
  rw [hset, ← BitVec.add_eq_or_of_and_eq_zero _ _ hclear, BitVec.toNat_add_of_and_eq_zero hclear]
  rfl

theorem spriteRowAddr_of_small {s : State} (e : Sprite) (hsmall : objSize s = false) :
    spriteRowAddr s e = 16 * e.tile.toNat + 2 * spriteLine s e := by
  rw [spriteRowAddr, spriteRow, if_neg (Bool.eq_false_iff.mp hsmall)]

/-- The two tiles of a 16-row sprite lie one after the other, so its 16 rows are contiguous from its top tile on. -/
theorem spriteRowAddr_of_tall {s : State} (e : Sprite) (htall : objSize s = true) :
    spriteRowAddr s e = 16 * (e.tile &&& 0xFE).toNat + 2 * spriteLine s e := by
  simp only [spriteRowAddr, spriteRow, if_pos htall]
  omega

/-- Row 8 of a 16-row sprite is row 0 of its bottom tile (R98). -/
theorem spriteRowAddr_of_tall_bottom {s : State} {e : Sprite} (htall : objSize s = true) (hrow : 8 ≤ spriteLine s e) :
    spriteRowAddr s e = 16 * (e.tile ||| 0x01).toNat + 2 * (spriteLine s e - 8) := by
  rw [spriteRowAddr_of_tall e htall, toNat_bottomTile]
  omega

/-- Settles O50: the row is `spriteLine`, and its address follows by the height and, for a tall sprite, the half. -/
theorem spriteRowsComeFromTheirTile : Obligations.SpriteRowsComeFromTheirTile := by
  intro s e height line row
  have hrow : spriteLine s e = row := spriteLine_eq s e
  rw [← hrow]
  exact ⟨spriteRowAddr_of_small e, fun htall _ => spriteRowAddr_of_tall e htall, spriteRowAddr_of_tall_bottom⟩

theorem tileBase_of_unsigned {s : State} (i : Byte) (hmode : tileData s = true) : tileBase s i = 16 * i.toNat :=
  if_pos hmode

/-- The signed addressing never reaches below offset 0x0800, so no index is cut off at 0 (R91). -/
theorem tileBase_of_signed {s : State} (i : Byte) (hmode : tileData s = false) :
    (tileBase s i : Int) = 0x1000 + 16 * i.toInt := by
  have hlow : -128 ≤ i.toInt := BitVec.le_toInt i
  rw [tileBase, if_neg (Bool.eq_false_iff.mp hmode), Int.toNat_of_nonneg (by omega)]

theorem tileBase_of_signed_low {s : State} {i : Byte} (hi : i.toNat < 128) (hmode : tileData s = false) :
    tileBase s i = 0x1000 + 16 * i.toNat := by
  have hbase := tileBase_of_signed i hmode
  have hnum : i.toInt = i.toNat := BitVec.toInt_eq_toNat_of_lt (by omega)
  omega

/-- An index from 128 on is 256 less when signed, which takes back the 0x1000 of the base: the modes share these tiles
(R91). -/
theorem tileBase_of_high (s : State) {i : Byte} (hi : 128 ≤ i.toNat) : tileBase s i = 16 * i.toNat := by
  cases hmode : tileData s with
  | true => exact tileBase_of_unsigned i hmode
  | false =>
    have hbase := tileBase_of_signed i hmode
    have hnum : i.toInt = i.toNat - 256 := by rw [BitVec.toInt_eq_toNat_cond, if_neg (by omega)]; rfl
    omega

/-- Settles O43, a lemma for each part of the table and each mode. -/
theorem tileAddressingModes : Obligations.TileAddressingModes := fun s i =>
  ⟨tileBase_of_unsigned i, tileBase_of_signed i, tileBase_of_signed_low, tileBase_of_high s⟩

end Sys2Proof.Machine
end

section
/-! The reads of the registers, and the writes of STAT, LY and LYC: each request's whole next state (R112 to R122, R124,
R127, R128). Settles O11, O12, O13, O15, O16 and O17. -/

namespace Sys2Proof.Machine

@[simp] theorem kind_mk (k : BitVec 3) (a : Offset) (d : Byte) : Request.kind ⟨k ++ a, d⟩ = k :=
  Laws.EncodedRow.kind_of_word k a

@[simp] theorem addr_mk (k : BitVec 3) (a : Offset) (d : Byte) : Request.addr ⟨k ++ a, d⟩ = a :=
  BitVec.extractLsb'_append_eq_right

/-- A REG_READ word is read by its select alone, whatever the data byte (R80, R82). -/
theorem decode_readWord (sel : Offset) (x : Byte) : decode ⟨(1 : BitVec 3) ++ sel, x⟩ = readInstr sel.toNat := by
  rw [decode, kind_mk, addr_mk]
  rfl

/-- A REG_WRITE word is read by its select, and carries the data byte (R80, R82). -/
theorem decode_writeWord (sel : Offset) (d : Byte) : decode ⟨(2 : BitVec 3) ++ sel, d⟩ = writeInstr sel.toNat d := by
  rw [decode, kind_mk, addr_mk]
  rfl

/-- A read changes the output alone. -/
theorem answer_eq (d : Byte) (s : State) : answer d s = { s with out := { data := some d } } := rfl

theorem clearOut_eq (s : State) : clearOut s = { s with out := {} } := rfl

/-- Settles O11: each read answers with its own register. -/
theorem registerReadsReturnTheRegister : Obligations.RegisterReadsReturnTheRegister :=
  ⟨fun x => ⟨decode_readWord 0x0 x, decode_readWord 0x2 x, decode_readWord 0x3 x, decode_readWord 0x5 x,
      decode_readWord 0x7 x, decode_readWord 0x8 x, decode_readWord 0x9 x, decode_readWord 0xA x, decode_readWord 0xB x⟩,
    fun s =>
      have read (d : Byte) := congrArg Host.Outcome.next (answer_eq d s)
      ⟨read s.lcdc, read s.scy, read s.scx, read s.lyc, read s.bgp, read s.obp0, read s.obp1, read s.wy, read s.wx⟩⟩

/-- Bits 6..3 of STAT read the stored enables (R113). -/
theorem statByte_enables (s : State) {k : Nat} (hk : k < 4) : (statByte s).getLsbD (3 + k) = s.statEn.getLsbD k := by
  rw [statByte, BitVec.getLsbD_append, if_neg (by omega), BitVec.getLsbD_append, if_neg (by omega),
    BitVec.getLsbD_append, if_pos (by omega)]
  congr 1
  omega

/-- Bits 1..0 of STAT read the mode (R113). -/
theorem statByte_mode (s : State) : (statByte s).extractLsb' 0 2 = modeBits s.mode :=
  BitVec.extractLsb'_append_eq_right

/-- Settles O12, a lemma for each field of the byte; the invariant says what the flag is, and the mode while off. -/
theorem statReadComposesItsByte : Obligations.StatReadComposesItsByte := by
  refine ⟨decode_readWord 0x1, fun s => ⟨statByte s, congrArg Host.Outcome.next (answer_eq _ s), statByte_bit7 s,
    fun _ => statByte_enables s, statByte_bit2 s, ?_, fun hinv => ⟨(statByte_bit2 s).trans hinv.coin_eq, fun hoff => ?_⟩⟩⟩
  · rw [statByte_mode]
    cases s.mode <;> rfl
  · obtain ⟨-, -, hrest⟩ := hinv.off_rest hoff
    rw [statByte_mode, hrest]
    rfl

/-- HBLANK is the only mode a dot of PIXEL_TRANSFER goes on to (R155). -/
theorem afterTransfer_mode_ne_vblank {s : State} (h : s.mode ≠ .vblank) : (afterTransfer s).mode ≠ .vblank := by
  unfold afterTransfer
  split
  · exact nofun
  · split <;> exact h

/-- A line that does not follow a line of VBLANK starts in VBLANK at LY 144 only (R157). -/
theorem startLine_ly_of_enters_vblank {s : State} (hs : s.mode ≠ .vblank) (ht : (startLine s).mode = .vblank) :
    (startLine s).ly = 144 := by
  rw [startLine_ly]
  unfold startLine at ht
  split at ht
  · split at ht
    next hly => exact hly
    next => cases ht
  · split at ht
    next => cases ht
    next => exact absurd ht hs

theorem blankDot_ly_of_enters_vblank {s : State} (hs : s.mode ≠ .vblank) (ht : (blankDot s).mode = .vblank) :
    (blankDot s).ly = 144 := by
  unfold blankDot at ht ⊢
  split at ht
  next hlast =>
    rw [if_pos hlast]
    exact startLine_ly_of_enters_vblank (by rwa [updateCoincidence_mode]) ht
  next => exact absurd ht hs

/-- A dot enters VBLANK at the start of line 144 alone (R160): of the modes it can come from, only HBLANK has a way there. -/
theorem stepDot_ly_of_enters_vblank {s : State} (hs : s.mode ≠ .vblank) (ht : (stepDot s).mode = .vblank) :
    (stepDot s).ly = 144 := by
  unfold stepDot at ht ⊢
  split at ht
  next hon =>
    rw [if_pos hon]
    cases hm : s.mode with
    | hblank =>
      simp only [hm] at ht ⊢
      exact blankDot_ly_of_enters_vblank hs ht
    | vblank => exact absurd hm hs
    | oamSearch =>
      simp only [hm, oamDot] at ht
      split at ht
      · cases ht
      · exact absurd ht hs
    | pixelTransfer =>
      simp only [hm] at ht
      exact absurd ht (afterTransfer_mode_ne_vblank fun h => hs ((transferDot_mode s).symm.trans h))
  next => exact absurd ht hs

/-- Settles O13: the range and the line at rest are of the invariant, and a STEP enters VBLANK at LY 144 alone. -/
theorem lyReadReturnsTheLine : Obligations.LyReadReturnsTheLine := by
  refine ⟨decode_readWord 0x4, fun s =>
    ⟨congrArg Host.Outcome.next (answer_eq _ s), fun hinv => ⟨hinv.ly_le, fun hoff => ?_⟩, ?_⟩⟩
  · obtain ⟨hly, -, -⟩ := hinv.off_rest hoff
    exact hly
  · rintro t ⟨⟩ hs ht
    exact stepDot_ly_of_enters_vblank hs ht

/-- The bits of the byte outside 6..3 are not stored (R124). -/
theorem statEnables_mask (d : Byte) : statEnables (d &&& 0x78) = statEnables d := by
  rw [statEnables, BitVec.extractLsb'_and]
  exact BitVec.and_allOnes

/-- Settles O15: the enables stored are `statEnables`, which reads bits 6..3 alone. -/
theorem statWriteStoresTheEnables : Obligations.StatWriteStoresTheEnables := by
  refine fun s d => ⟨decode_writeWord 0x1 d, statEnables d, rfl, statEnables_getLsbD d, ?_⟩
  simp only [exec, execWrStat, statEnables_mask]

/-- Settles O16: all the write does is begin with nothing emitted. -/
theorem lyWriteIsIgnored : Obligations.LyWriteIsIgnored := fun s d =>
  ⟨decode_writeWord 0x4 d, congrArg Host.Outcome.next (clearOut_eq s)⟩

/-- The whole next state of a write of LYC (R128): `update_coincidence` with nothing emitted before it. -/
theorem exec_wrLyc (d : Byte) (s : State) :
    exec (.wrLyc d) s = .next
      { s with
        lyc := d, coin := s.ly == d
        out := { stat := (s.ly == d) && !s.coin && s.lcdc.getLsbD 7 && s.statEn.getLsbD 3 } } := rfl

/-- Settles O17: where the flag is right, the value LYC holds leaves it as it is, and no rise is requested. -/
theorem lycWriteUpdatesTheFlag : Obligations.LycWriteUpdatesTheFlag := by
  refine fun s d => ⟨decode_writeWord 0x5 d, exec_wrLyc d s, fun hcoin => ?_⟩
  rw [exec_wrLyc, ← hcoin, Bool.and_not_self, Bool.false_and, Bool.false_and]

end Sys2Proof.Machine
end

section
/-! The memory ports by mode (R67, R68): what each request decodes to and its whole next state, and that the scan of the next
line sees what HBLANK wrote (R143). Settles O25, O22, O24 and O26. -/

namespace Sys2Proof.Machine

/-- A VRAM_READ word is legal for every `addr`, whatever the data byte (R80, R85). -/
theorem decode_vrdWord (a : Offset) (x : Byte) : decode ⟨(3 : BitVec 3) ++ a, x⟩ = .ok (.vrd a) := by
  rw [decode, kind_mk, addr_mk]
  rfl

/-- An OAM_READ word is legal for every `addr`, whatever the data byte (R80, R85). -/
theorem decode_ordWord (a : Offset) (x : Byte) : decode ⟨(5 : BitVec 3) ++ a, x⟩ = .ok (.ord a) := by
  rw [decode, kind_mk, addr_mk]
  rfl

/-- An OAM_WRITE word is legal for every `addr`, and carries the data byte (R80, R85). -/
theorem decode_owrWord (a : Offset) (d : Byte) : decode ⟨(6 : BitVec 3) ++ a, d⟩ = .ok (.owr a d) := by
  rw [decode, kind_mk, addr_mk]
  rfl

/-- An OAM_DMA_WRITE word is legal for every `addr`, and carries the data byte (R80, R85). -/
theorem decode_dmaWord (a : Offset) (d : Byte) : decode ⟨(7 : BitVec 3) ++ a, d⟩ = .ok (.dma a d) := by
  rw [decode, kind_mk, addr_mk]
  rfl

theorem vramOpen_iff (s : State) : vramOpen s = true ↔ s.mode ≠ .pixelTransfer := bne_iff_ne

theorem oamOpen_iff (s : State) : oamOpen s = true ↔ ¬ (s.mode = .oamSearch ∨ s.mode = .pixelTransfer) := by
  rw [oamOpen, Bool.and_eq_true, bne_iff_ne, bne_iff_ne, not_or]

theorem exec_vrd_of_closed {s : State} (hclosed : ¬ vramOpen s = true) (a : Offset) :
    exec (.vrd a) s = .next (answer 0xFF s) := by
  rw [exec, execVrd, if_neg hclosed, Config.vramFill]

theorem exec_ord_of_closed {s : State} (hclosed : ¬ oamOpen s = true) (a : Offset) :
    exec (.ord a) s = .next (answer 0xFF s) := by
  rw [exec, execOrd, if_neg hclosed, Config.oamFill]

theorem exec_owr_of_closed {s : State} (hclosed : ¬ oamOpen s = true) (a : Offset) (d : Byte) :
    exec (.owr a d) s = .next (clearOut s) := by
  rw [exec, execOwr, if_neg hclosed]

/-- The whole next state of a bus write of OAM (R143): the table, if the gate is open, and nothing emitted. -/
theorem exec_owr (a : Offset) (d : Byte) (s : State) :
    exec (.owr a d) s = .next
      { s with oam := if oamOpen s then Memory.write s.oam (a.toNat % 160) d else s.oam, out := {} } := by
  by_cases hopen : oamOpen s = true
  · rw [exec_owr_of_open hopen, if_pos hopen]
    rfl
  · rw [exec_owr_of_closed hopen, if_neg hopen]
    rfl

/-- The whole next state of a write of the DMA port (R144). -/
theorem exec_dma (a : Offset) (d : Byte) (s : State) :
    exec (.dma a d) s = .next { s with oam := Memory.write s.oam (a.toNat % 160) d, out := {} } := rfl

/-- Settles O22, by whether the gate of VRAM is open. -/
theorem vramReadIsGatedInTransfer : Obligations.VramReadIsGatedInTransfer := by
  refine fun s a => ⟨decode_vrdWord a, ?_⟩
  by_cases hopen : vramOpen s = true
  · rw [if_neg ((vramOpen_iff s).mp hopen), exec_vrd_of_open hopen, answer_eq]
  · rw [if_pos (Classical.not_not.mp (mt (vramOpen_iff s).mpr hopen)), exec_vrd_of_closed hopen, answer_eq]

/-- Settles O24, by whether the gate of OAM is open. -/
theorem oamReadIsGatedInSearchAndTransfer : Obligations.OamReadIsGatedInSearchAndTransfer := by
  refine fun s a => ⟨decode_ordWord a, ?_⟩
  by_cases hopen : oamOpen s = true
  · rw [if_neg ((oamOpen_iff s).mp hopen), exec_ord_of_open hopen, answer_eq]
  · rw [if_pos (Classical.not_not.mp (mt (oamOpen_iff s).mpr hopen)), exec_ord_of_closed hopen, answer_eq]

/-- Settles O26: the port has no gate. -/
theorem dmaWritesOamInEveryMode : Obligations.DmaWritesOamInEveryMode := fun s a d ⟨hsorted, _⟩ =>
  ⟨decode_dmaWord a d, _, exec_dma a d s, rfl, fun b => Memory.read_write s.oam _ b d hsorted⟩

/-- A line that starts in OAM_SEARCH starts with the scan of its own state (R157, R159). -/
theorem startLine_queue_of_enters_search {s : State} (hs : s.mode ≠ .oamSearch) (ht : (startLine s).mode = .oamSearch) :
    (startLine s).queue = (oamScan s).queue := by
  unfold startLine at ht ⊢
  split at ht
  · split at ht
    next => cases ht
    next hly =>
      rw [if_neg hly]
      rfl
  · split at ht
    next hly =>
      rw [if_pos hly]
      rfl
    next => exact absurd ht hs

/-- Between the last dot of a line and the scan of the next, of all the scan reads only LY changes (R157). -/
theorem blankDot_queue_of_enters_search {s : State} (hs : s.mode ≠ .oamSearch) (ht : (blankDot s).mode = .oamSearch) :
    (blankDot s).queue = (oamScan { s with ly := (blankDot s).ly }).queue := by
  unfold blankDot at ht ⊢
  split at ht
  next hlast =>
    rw [if_pos hlast, endOfLine_ly]
    exact startLine_queue_of_enters_search (by rwa [updateCoincidence_mode]) ht
  next => exact absurd ht hs

/-- A dot of HBLANK enters OAM_SEARCH by ending its line, with the display on (R151, R156). -/
theorem stepDot_queue_of_hblank_enters_search {s : State} (hs : s.mode = .hblank) (ht : (stepDot s).mode = .oamSearch) :
    (stepDot s).queue = (oamScan { s with ly := (stepDot s).ly }).queue := by
  have hne : s.mode ≠ .oamSearch := by rw [hs]; exact nofun
  by_cases hon : lcdOn s = true
  · have hdot : stepDot s = blankDot s := by rw [stepDot, if_pos hon, hs]
    rw [hdot] at ht ⊢
    exact blankDot_queue_of_enters_search hne ht
  · rw [stepDot, if_neg hon] at ht
    exact absurd ht hne

/-- Settles O25: the write is `exec_owr`, and the scan that a STEP out of HBLANK makes reads the table it left. -/
theorem oamWriteIsDroppedInSearchAndTransfer : Obligations.OamWriteIsDroppedInSearchAndTransfer := by
  rintro s a d ⟨hsorted, -⟩
  refine ⟨decode_owrWord a d, _, exec_owr a d s, rfl, fun hclosed => ?_, fun hblank b => ?_, ?_⟩
  · exact if_neg fun hopen => (oamOpen_iff s).mp hopen hclosed
  · have hopen : oamOpen s = true := (oamOpen_iff s).mpr (by rcases hblank with h | h <;> rw [h] <;> decide)
    rw [if_pos hopen]
    exact Memory.read_write s.oam _ b d hsorted
  · rintro hblank u ⟨⟩ hu
    exact stepDot_queue_of_hblank_enters_search hblank hu

end Sys2Proof.Machine
end

section
/-! STEP by mode, and the display power: each one's whole next state (R151 to R153, R157 to R160, R167, R168). Settles O35,
O37, O18, O19 and O38. -/

namespace Sys2Proof.Machine

theorem exec_step (s : State) : exec .step s = .next (stepDot (clearOut s)) := rfl

theorem stepDot_of_off {s : State} (hoff : lcdOn s = false) : stepDot s = s :=
  if_neg (Bool.eq_false_iff.mp hoff)

theorem stepDot_of_search {s : State} (hon : lcdOn s = true) (hmode : s.mode = .oamSearch) : stepDot s = oamDot s := by
  rw [stepDot, if_pos hon, hmode]

theorem stepDot_of_transfer {s : State} (hon : lcdOn s = true) (hmode : s.mode = .pixelTransfer) :
    stepDot s = afterTransfer (countDot (transferDot s)) := by
  rw [stepDot, if_pos hon, hmode]

theorem stepDot_of_blank {s : State} (hon : lcdOn s = true) (hmode : s.mode = .hblank ∨ s.mode = .vblank) :
    stepDot s = blankDot s := by
  rw [stepDot, if_pos hon]
  rcases hmode with h | h <;> rw [h]

theorem oamDot_of_inner {s : State} (hdot : s.dot + 1 ≠ 80) : oamDot s = countDot s := if_neg hdot

theorem oamDot_of_last {s : State} (hdot : s.dot + 1 = 80) : oamDot s = enterTransfer (countDot s) := if_pos hdot

theorem blankDot_of_inner {s : State} (hdot : s.dot ≠ 455) : blankDot s = countDot s :=
  if_neg fun hlast => hdot (Nat.succ.inj hlast)

theorem blankDot_of_last {s : State} (hdot : s.dot = 455) : blankDot s = endOfLine (countDot s) := if_pos (by rw [hdot])

/-- Settles O35: the dot is `stepDot_of_off`, and the rest position is of the invariant. -/
theorem stepWhileOffDoesNothing : Obligations.StepWhileOffDoesNothing := fun s hoff =>
  ⟨congrArg Host.Outcome.next (stepDot_of_off (s := clearOut s) hoff), fun hinv => hinv.off_rest hoff⟩

/-- PIXEL_TRANSFER entry, whole (R153, R199, R204, R231). -/
theorem enterTransfer_eq (s : State) : enterTransfer s =
    { s with
      mode := .pixelTransfer, cursor := 0
      fphase := .ti, fsub := false, savedPhase := .ti, bgTile := 0, winTile := 0, bgLo := 0, bgHi := 0, bgCount := 0
      winLine := windowLine s, winMode := windowAtLeft s, winDrawn := s.winDrawn || windowAtLeft s
      discard := if windowAtLeft s then 7 - s.wx.toNat else s.scx.toNat % 8
      head := 0, sactive := false, sphase := .addr, ssub := false, slots := emptySlots } := rfl

/-- Settles O37, by whether the dot is the last of OAM_SEARCH. -/
theorem oamSearchCountsThenEntersTransfer : Obligations.OamSearchCountsThenEntersTransfer := by
  intro s hon hmode
  rw [exec_step, stepDot_of_search (s := clearOut s) hon hmode]
  refine ⟨fun hinner => ?_, fun hlast => ?_⟩
  · rw [oamDot_of_inner (s := clearOut s) hinner]
    rfl
  · rw [oamDot_of_last (s := clearOut s) hlast, enterTransfer_eq, ← hlast]
    rfl

theorem exec_wrLcdc (d : Byte) (s : State) :
    exec (.wrLcdc d) s = .next (switchDisplay (lcdOn s) { s with lcdc := d, out := {} }) := rfl

theorem switchDisplay_of_falls {s : State} (hoff : lcdOn s = false) : switchDisplay true s = displayOff s := by
  rw [switchDisplay, hoff]
  rfl

theorem switchDisplay_of_rises {s : State} (hon : lcdOn s = true) : switchDisplay false s = displayOn s := by
  rw [switchDisplay, hon]
  rfl

theorem switchDisplay_of_same {s : State} {wasOn : Bool} (h : lcdOn s = wasOn) : switchDisplay wasOn s = s := by
  rw [switchDisplay, h]
  cases wasOn <;> rfl

/-- The flag and the request of R161 at once. -/
theorem updateCoincidence_eq (allow : Bool) (s : State) : updateCoincidence allow s =
    { s with
      coin := s.ly == s.lyc
      out := { s.out with stat := s.out.stat || ((s.ly == s.lyc) && !s.coin && allow && lycInt s) } } := rfl

theorem updateCoincidence_silent (s : State) : updateCoincidence false s = { s with coin := s.ly == s.lyc } := by
  rw [updateCoincidence_eq, Bool.and_false, Bool.false_and, Bool.or_false]

/-- Settles O18: the flag follows LY with no request, and `displayOff` sets the rest. -/
theorem displayOffRestsTheSequencer : Obligations.DisplayOffRestsTheSequencer := by
  intro s d hon hoff
  rw [exec_wrLcdc, show lcdOn s = true from hon, switchDisplay_of_falls (s := { s with lcdc := d, out := {} }) hoff,
    displayOff, updateCoincidence_silent]

/-- Settles O19: OAM_SEARCH is entered on the line LY rests at, which the invariant says is 0. -/
theorem displayOnEntersOamSearch : Obligations.DisplayOnEntersOamSearch := by
  intro s d hinv hoff hon
  obtain ⟨hly, -, -⟩ := hinv.off_rest hoff
  rw [exec_wrLcdc, show lcdOn s = false from hoff, switchDisplay_of_rises (s := { s with lcdc := d, out := {} }) hon,
    displayOn, enterOam, if_pos hly, hly]
  rfl

/-- The state between the last dot of a line and the choice of the next line's mode: the line counted, the flag updated
(R157). -/
def lineCounted (s : State) : State := updateCoincidence true (nextLine (countDot (clearOut s)))

@[simp] theorem lineCounted_ly (s : State) : (lineCounted s).ly = nextLy s.ly := rfl

@[simp] theorem lineCounted_mode (s : State) : (lineCounted s).mode = s.mode := rfl

@[simp] theorem lineCounted_dot (s : State) : (lineCounted s).dot = 0 := rfl

theorem lineCounted_eq (s : State) : lineCounted s =
    { s with
      dot := 0, ly := nextLy s.ly, winDrawn := false, coin := nextLy s.ly == s.lyc
      wlc := if s.winDrawn then s.wlc + 1 else s.wlc
      out := { stat := (nextLy s.ly == s.lyc) && !s.coin && s.statEn.getLsbD 3 } } := by
  rw [lineCounted, updateCoincidence_eq, Bool.and_true]
  rfl

theorem stepDot_of_endsLine {s : State} (h : endsLine s) : stepDot (clearOut s) = startLine (lineCounted s) := by
  obtain ⟨hon, hdot, hmode⟩ := h
  rw [stepDot_of_blank (s := clearOut s) hon hmode, blankDot_of_last (s := clearOut s) hdot]
  rfl

/-- The three ways to go on after a line (R157). -/
theorem stepDot_cases_of_endsLine {s : State} (h : endsLine s) :
    (s.mode = .hblank ∧ nextLy s.ly = 144 ∧ stepDot (clearOut s) = enterVblank (lineCounted s)) ∨
      ((s.mode = .hblank ∧ nextLy s.ly ≠ 144 ∨ s.mode = .vblank ∧ nextLy s.ly = 0) ∧
        stepDot (clearOut s) = enterOam (lineCounted s)) ∨
      (s.mode = .vblank ∧ nextLy s.ly ≠ 0 ∧ stepDot (clearOut s) = lineCounted s) := by
  rw [stepDot_of_endsLine h, startLine, lineCounted_mode, lineCounted_ly]
  obtain ⟨-, -, hm | hm⟩ := h
  · rw [hm]
    by_cases hly : nextLy s.ly = 144
    · exact .inl ⟨rfl, hly, if_pos hly⟩
    · exact .inr (.inl ⟨.inl ⟨rfl, hly⟩, if_neg hly⟩)
  · rw [hm]
    by_cases hly : nextLy s.ly = 0
    · exact .inr (.inl ⟨.inr ⟨rfl, hly⟩, if_pos hly⟩)
    · exact .inr (.inr ⟨rfl, hly, if_neg hly⟩)

/-- Settles O38, by the three ways to go on after a line; each gives the two flags of the statement their values. -/
theorem endOfLineAdvancesTheFrame : Obligations.EndOfLineAdvancesTheFrame := by
  intro s hon hmode hdot line toVblank toOam counted
  have hline : nextLy s.ly = line := rfl
  rw [exec_step]
  obtain ⟨hm, hly, hnext⟩ | ⟨hsearch, hnext⟩ | ⟨hm, hly, hnext⟩ := stepDot_cases_of_endsLine ⟨hon, hdot, hmode⟩
  · have hv : toVblank = true := by simp [toVblank, hm, ← hline, hly]
    have ho : toOam = false := by simp [toOam, hm, ← hline, hly]
    rw [hnext, lineCounted_eq, hv, ho]
    simp only [Bool.true_and, Bool.false_and, Bool.or_false]
    rfl
  · obtain ⟨hv, ho⟩ : toVblank = false ∧ toOam = true := by
      obtain ⟨hm, hly⟩ | ⟨hm, hly⟩ := hsearch
      · have hne : (line == 144) = false := beq_false_of_ne hly
        simp only [toVblank, toOam, hm, hne, Bool.and_false, Bool.not_false, if_true, and_self]
      · simp [toVblank, toOam, hm, ← hline, hly]
    rw [hnext, lineCounted_eq, hv, ho]
    simp only [Bool.true_and, Bool.false_and, Bool.or_false, beq_iff_eq]
    rfl
  · have hne : (line == 0) = false := beq_false_of_ne hly
    have hv : toVblank = false := by simp [toVblank, hm]
    have ho : toOam = false := by simp only [toOam, hm, hne, reduceCtorEq, if_false]
    rw [hnext, lineCounted_eq, hv, ho]
    simp only [Bool.false_and, Bool.or_false]
    rfl

end Sys2Proof.Machine
end

section
/-! The budget of a line (R169): what each part of a PIXEL_TRANSFER dot does to `transferDotsLeft`, and that the dot keeps
the invariant. The window start and the sprite trigger are paid for by the dots kept for them; a dot of the sprite fetcher,
and a dot of the background fetcher with the mixer's, each spend at least one. -/

namespace Sys2Proof.Machine

/-! ## The window start and the sprite trigger -/

theorem windowStartsHere_iff (s : State) : windowStartsHere s = true ↔ windowStarts s := by
  simp [windowStartsHere, windowStarts, winEn, and_assoc]

theorem windowCheck_of_starts {s : State} (h : windowStarts s) : windowCheck s =
    { s with
      winMode := true, winDrawn := true
      bgLo := 0, bgHi := 0, bgCount := 0
      fphase := .ti, fsub := false
      winTile := 0 } := if_pos ((windowStartsHere_iff s).mpr h)

theorem windowCheck_of_not_starts {s : State} (h : ¬ windowStarts s) : windowCheck s = s :=
  if_neg (mt (windowStartsHere_iff s).mp h)

theorem windowDotsLeft_of_winMode {s : State} (h : s.winMode = true) : windowDotsLeft s = 0 := by
  rw [windowDotsLeft, h, Bool.not_true, Bool.and_false]
  rfl

/-- The 7 dots kept for a window start pay for the fetch it begins (R208). -/
theorem windowCheck_transferDotsLeft_le (s : State) : transferDotsLeft (windowCheck s) ≤ transferDotsLeft s := by
  by_cases hstart : windowStarts s
  · rw [windowCheck_of_starts hstart]
    obtain ⟨hline, hmode, -⟩ := hstart
    have hkept : windowDotsLeft s = 7 := by rw [windowDotsLeft, hline, hmode]; rfl
    change 160 - s.cursor + s.discard + 7 + spriteDotsLeft s + windowDotsLeft _ ≤ _
    rw [windowDotsLeft_of_winMode rfl, transferDotsLeft, hkept]
    omega
  · exact Nat.le_of_eq (congrArg transferDotsLeft (windowCheck_of_not_starts hstart))

theorem spriteReached_iff (s : State) :
    spriteReached s = true ↔ ∃ e ∈ s.queue[s.head]?, (e.x.toNat : Int) - 8 ≤ (s.cursor : Int) := by
  unfold spriteReached
  split
  next e he =>
    simp only [he, Option.mem_def, Option.some.injEq, exists_eq_left']
    exact decide_eq_true_iff
  next he => simp only [he, Bool.false_eq_true, Option.not_mem_none, false_and, exists_false]

theorem spriteCheck_of_triggers {s : State} (h : spriteTriggers s) :
    spriteCheck s = { s with sactive := true, savedPhase := s.fphase, sphase := .addr, ssub := false } :=
  if_pos (Bool.and_eq_true_iff.mpr (h.imp id (spriteReached_iff s).mpr))

theorem spriteCheck_of_not_triggers {s : State} (h : ¬ spriteTriggers s) : spriteCheck s = s :=
  if_neg fun hc => h ((Bool.and_eq_true_iff.mp hc).imp id (spriteReached_iff s).mp)

theorem spriteTriggers.head_lt {s : State} (h : spriteTriggers s) : s.head < s.queue.length := by
  obtain ⟨-, e, he, -⟩ := h
  obtain ⟨hlt, -⟩ := List.getElem?_eq_some_iff.mp he
  exact hlt

theorem spriteDotsLeft_of_active {s : State} (h : s.sactive = true) :
    spriteDotsLeft s = spriteFetchDotsLeft s + 1 + 7 * (s.queue.length - s.head - 1) := if_pos h

theorem spriteDotsLeft_of_idle {s : State} (h : s.sactive = false) :
    spriteDotsLeft s = 7 * (s.queue.length - s.head) := if_neg (Bool.eq_false_iff.mp h)

/-- The 7 dots kept for the entry pay for its fetch (R228). -/
theorem spriteCheck_transferDotsLeft_le {s : State} (hidle : s.sactive = false) :
    transferDotsLeft (spriteCheck s) ≤ transferDotsLeft s := by
  by_cases htrig : spriteTriggers s
  · have hhead := htrig.head_lt
    rw [spriteCheck_of_triggers htrig]
    change 160 - s.cursor + s.discard + stallDotsLeft s + (7 + 7 * (s.queue.length - s.head - 1)) + windowDotsLeft s ≤ _
    rw [transferDotsLeft, spriteDotsLeft_of_idle hidle]
    omega
  · exact Nat.le_of_eq (congrArg transferDotsLeft (spriteCheck_of_not_triggers htrig))

theorem Inv.after_windowCheck {s : State} (h : Inv s) (hidle : s.sactive = false) : Inv (windowCheck s) := by
  have hle := windowCheck_transferDotsLeft_le s
  by_cases hstart : windowStarts s
  · rw [windowCheck_of_starts hstart] at hle ⊢
    exact { h with
      transfer_dots := fun hm =>
        have ⟨h80, hcursor, hdots⟩ := h.transfer_dots hm
        ⟨h80, hcursor, Nat.le_trans (Nat.add_le_add_left hle _) hdots⟩
      bg_count_le := Nat.zero_le _
      sprite_fetch := fun hactive => absurd hactive (Bool.eq_false_iff.mp hidle) }
  · rwa [windowCheck_of_not_starts hstart]

theorem Inv.after_spriteCheck {s : State} (h : Inv s) (hmode : s.mode = .pixelTransfer) (hidle : s.sactive = false) :
    Inv (spriteCheck s) := by
  have hle := spriteCheck_transferDotsLeft_le hidle
  by_cases htrig : spriteTriggers s
  · rw [spriteCheck_of_triggers htrig] at hle ⊢
    exact { h with
      transfer_dots := fun hm =>
        have ⟨h80, hcursor, hdots⟩ := h.transfer_dots hm
        ⟨h80, hcursor, Nat.le_trans (Nat.add_le_add_left hle _) hdots⟩
      sprite_fetch := fun _ => ⟨hmode, htrig.head_lt, rfl⟩ }
  · rwa [spriteCheck_of_not_triggers htrig]

/-! ## The sprite fetcher -/

theorem spriteFetchDotsLeft_pos (s : State) : 0 < spriteFetchDotsLeft s := by
  unfold spriteFetchDotsLeft
  split <;> split <;> omega

/-- What a dot of the sprite fetcher can do (R222): go on within the fetch, or finish it. -/
theorem spriteFetchDot_cases {s : State} {e : Sprite} (he : s.queue[s.head]? = some e) :
    (∃ p b a l, spriteFetchDot s = { s with sphase := p, ssub := b, saddr := a, sLo := l } ∧
      spriteFetchDotsLeft { s with sphase := p, ssub := b } < spriteFetchDotsLeft s) ∨
    ∃ plane, spriteFetchDot s = finishSprite e { s with sHi := plane } := by
  simp only [spriteFetchDot, he]
  split
  next hsub =>
    split
    next hphase => exact .inl ⟨_, _, _, _, rfl, by simp [spriteFetchDotsLeft, hphase, hsub]⟩
    next hphase => exact .inl ⟨_, _, _, _, rfl, by simp [spriteFetchDotsLeft, hphase, hsub]⟩
    next => exact .inr ⟨_, rfl⟩
  next hsub =>
    refine .inl ⟨_, _, _, _, rfl, ?_⟩
    simp only [spriteFetchDotsLeft, hsub]
    cases s.sphase <;> decide

/-- A dot within a sprite fetch moves the sprite fetcher alone (R221). -/
theorem transferDotsLeft_lt_of_fetching {s : State} (hactive : s.sactive = true) {p : SpritePhase} {b : Bool}
    (a : BitVec 13) (l : Byte) (hfetch : spriteFetchDotsLeft { s with sphase := p, ssub := b } < spriteFetchDotsLeft s) :
    transferDotsLeft { s with sphase := p, ssub := b, saddr := a, sLo := l } < transferDotsLeft s := by
  have hafter : spriteDotsLeft { s with sphase := p, ssub := b, saddr := a, sLo := l } =
      spriteFetchDotsLeft { s with sphase := p, ssub := b } + 1 + 7 * (s.queue.length - s.head - 1) := if_pos hactive
  change 160 - s.cursor + s.discard + stallDotsLeft s + spriteDotsLeft _ + windowDotsLeft s < _
  rw [hafter, transferDotsLeft, spriteDotsLeft_of_active hactive]
  omega

/-- A phase that starts again costs at most the one dot it had done (R228). -/
theorem fetchDotsLeft_restart_le {s t : State} (hphase : t.fphase = s.fphase) : fetchDotsLeft t ≤ fetchDotsLeft s + 1 := by
  unfold fetchDotsLeft
  rw [hphase]
  split <;> split <;> split <;> omega

/-- The end of a fetch gives back the restart dot kept for it (R228). -/
theorem finishSprite_transferDotsLeft_lt {s : State} (e : Sprite) (hactive : s.sactive = true)
    (hsaved : s.savedPhase = s.fphase) : transferDotsLeft (finishSprite e s) < transferDotsLeft s := by
  have hpos := spriteFetchDotsLeft_pos s
  have hrestart : fetchDotsLeft (finishSprite e s) ≤ fetchDotsLeft s + 1 := fetchDotsLeft_restart_le hsaved
  change 160 - s.cursor + s.discard + (fetchDotsLeft (finishSprite e s) - s.bgCount - 1) +
    7 * (s.queue.length - (s.head + 1)) + windowDotsLeft s < _
  rw [transferDotsLeft, stallDotsLeft, spriteDotsLeft_of_active hactive]
  omega

theorem Inv.head_entry {s : State} (h : Inv s) (hactive : s.sactive = true) : ∃ e, s.queue[s.head]? = some e :=
  have ⟨_, hhead, _⟩ := h.sprite_fetch hactive
  ⟨_, List.getElem?_eq_getElem hhead⟩

theorem Inv.after_spriteFetchDot {s : State} (h : Inv s) (hactive : s.sactive = true) :
    Inv (spriteFetchDot s) ∧ transferDotsLeft (spriteFetchDot s) < transferDotsLeft s := by
  obtain ⟨hmode, hhead, hsaved⟩ := h.sprite_fetch hactive
  obtain ⟨h80, hcursor, hdots⟩ := h.transfer_dots hmode
  obtain ⟨e, he⟩ := h.head_entry hactive
  obtain ⟨p, b, a, l, heq, hfetch⟩ | ⟨plane, heq⟩ := spriteFetchDot_cases he
  · have hlt := transferDotsLeft_lt_of_fetching hactive a l hfetch
    rw [heq]
    exact ⟨{ h with transfer_dots := fun _ => ⟨h80, hcursor, Nat.le_trans (Nat.add_le_add_left (Nat.le_of_lt hlt) _) hdots⟩ }, hlt⟩
  · have hlt := finishSprite_transferDotsLeft_lt (s := { s with sHi := plane }) e hactive hsaved
    rw [heq]
    exact ⟨{ h with
      transfer_dots := fun _ => ⟨h80, hcursor, Nat.le_trans (Nat.add_le_add_left (Nat.le_of_lt hlt) _) hdots⟩
      head_le := hhead
      sprite_fetch := nofun
      slots_length := List.length_set.trans h.slots_length
      slot_count_le := fun k hk =>
        (List.mem_or_eq_of_mem_set hk).elim (h.slot_count_le k) fun hslot => hslot ▸ Nat.sub_le 8 _ }, hlt⟩

/-! ## The background fetcher -/

theorem fetchDotsLeft_pos (s : State) : 0 < fetchDotsLeft s := by
  unfold fetchDotsLeft
  split <;> split <;> omega

/-- What a dot of the background fetcher can do (R191, R195): load the pair, wait for it to run out, or go one dot on. -/
theorem bgFetchDot_cases (s : State) :
    (s.bgCount = 0 ∧ fetchDotsLeft s = 1 ∧ (bgFetchDot s).bgCount = 8 ∧ fetchDotsLeft (bgFetchDot s) = 8) ∨
    (0 < s.bgCount ∧ fetchDotsLeft s = 1 ∧ (bgFetchDot s).bgCount = s.bgCount ∧ fetchDotsLeft (bgFetchDot s) = 1) ∨
    ((bgFetchDot s).bgCount = s.bgCount ∧ fetchDotsLeft (bgFetchDot s) + 1 = fetchDotsLeft s) := by
  unfold bgFetchDot
  split
  next hsub =>
    cases hphase : s.fphase with
    | ti => exact .inr (.inr ⟨rfl, by simp [fetchDotsLeft, fetchTileIndex, hphase, hsub]⟩)
    | lo => exact .inr (.inr ⟨rfl, by simp [fetchDotsLeft, fetchLowPlane, hphase, hsub]⟩)
    | hi => exact .inr (.inr ⟨rfl, by simp [fetchDotsLeft, fetchHighPlane, hphase, hsub]⟩)
    | push =>
      have hone : fetchDotsLeft s = 1 := by simp [fetchDotsLeft, hphase, hsub]
      by_cases hempty : s.bgCount = 0
      · exact .inl ⟨hempty, hone, by simp [pushTile, hempty], by simp [pushTile, hempty, fetchDotsLeft]⟩
      · have hwait : pushTile s = s := if_neg hempty
        exact .inr (.inl ⟨Nat.pos_of_ne_zero hempty, hone, by simp [hwait], by simp [hwait, hone]⟩)
  next hsub =>
    refine .inr (.inr ⟨rfl, ?_⟩)
    simp only [fetchDotsLeft, hsub]
    cases s.fphase <;> decide

theorem bgFetchDot_stall (s : State) :
    fetchDotsLeft (bgFetchDot s) - (bgFetchDot s).bgCount = stallDotsLeft s := by
  have hcases := bgFetchDot_cases s
  unfold stallDotsLeft
  omega

/-- The dots the line can still take once the fetcher has had its dot of the current one and the mixer has not. -/
def mixDotsLeft (s : State) : Nat :=
  160 - s.cursor + s.discard + (fetchDotsLeft s - s.bgCount) + spriteDotsLeft s + windowDotsLeft s

/-- The fetcher's dot alone spends nothing: what the pair lacks for the next load is the stall left before it (R200). -/
theorem bgFetchDot_mixDotsLeft (s : State) : mixDotsLeft (bgFetchDot s) = transferDotsLeft s := by
  rw [mixDotsLeft, bgFetchDot_stall, bgFetchDot_frame]
  rfl

theorem transferDotsLeft_le_mixDotsLeft (s : State) : transferDotsLeft s ≤ mixDotsLeft s := by
  unfold transferDotsLeft stallDotsLeft mixDotsLeft
  omega

theorem bgFetchDot_bgCount_le {s : State} (h : s.bgCount ≤ 8) : (bgFetchDot s).bgCount ≤ 8 := by
  have hcases := bgFetchDot_cases s
  omega

theorem Inv.after_bgFetchDot {s : State} (h : Inv s) (hidle : s.sactive = false) : Inv (bgFetchDot s) := by
  have hle := Nat.le_trans (transferDotsLeft_le_mixDotsLeft _) (Nat.le_of_eq (bgFetchDot_mixDotsLeft s))
  have hcount := bgFetchDot_bgCount_le h.bg_count_le
  rw [bgFetchDot_frame] at hle ⊢
  exact { h with
    transfer_dots := fun hm =>
      have ⟨h80, hcursor, hdots⟩ := h.transfer_dots hm
      ⟨h80, hcursor, Nat.le_trans (Nat.add_le_add_left hle _) hdots⟩
    bg_count_le := hcount
    sprite_fetch := fun hactive => absurd hactive (Bool.eq_false_iff.mp hidle) }

/-! ## The end of the dot -/

/-- Off the rest position the display is on (R32). -/
theorem Inv.on_of_mode {s : State} (h : Inv s) (hmode : s.mode ≠ .hblank) : s.lcdc.getLsbD 7 = true :=
  Bool.of_not_eq_false fun hoff =>
    have ⟨_, _, hrest⟩ := h.off_rest hoff
    hmode hrest

theorem not_off_of_on {s : State} (hon : s.lcdc.getLsbD 7 = true) : ¬ lcdOn s = false := fun hoff =>
  Bool.eq_false_iff.mp hoff hon

/-- A dot that leaves the line unfinished, and has spent a dot of its budget, only counts. -/
theorem Inv.after_unfinished {s : State} (h : Inv s) (hmode : s.mode = .pixelTransfer)
    (hspent : s.dot + transferDotsLeft s < 331) : Inv (afterTransfer (countDot s)) := by
  obtain ⟨h80, hcursor, -⟩ := h.transfer_dots hmode
  have hcount : afterTransfer (countDot s) = countDot s :=
    (if_neg (Nat.ne_of_lt hcursor)).trans (if_neg (show s.dot + 1 ≠ 456 by omega))
  rw [hcount]
  exact { h with
    dot_lt := show s.dot + 1 < 456 by omega
    off_rest := fun hoff => absurd hoff (not_off_of_on (h.on_of_mode (by rw [hmode]; nofun)))
    oam_dots := fun hm => absurd (hmode.symm.trans hm) nofun
    transfer_dots := fun _ => ⟨Nat.le_succ_of_le h80, hcursor, show s.dot + 1 + transferDotsLeft s ≤ 331 by omega⟩ }

theorem Inv.after_enterHblank {s : State} (h : Inv s) (hmode : s.mode = .pixelTransfer) (hidle : s.sactive = false) :
    Inv (enterHblank (countDot s)) := by
  obtain ⟨-, -, hdots⟩ := h.transfer_dots hmode
  exact { h with
    dot_lt := show s.dot + 1 < 456 by omega
    off_rest := fun hoff => absurd hoff (not_off_of_on (h.on_of_mode (by rw [hmode]; nofun)))
    visible_line := fun _ => h.visible_line (by rw [hmode]; nofun)
    oam_dots := nofun
    transfer_dots := nofun
    sprite_fetch := fun hactive => absurd hactive (Bool.eq_false_iff.mp hidle) }

/-! ## The mixer -/

theorem shiftSlots_length (n : Nat) (slots : List Slot) : (shiftSlots n slots).length = slots.length := by
  rw [shiftSlots, List.length_append, List.length_map, ← List.length_append, List.take_append_drop]

theorem shiftSlot_count_le (k : Slot) : (shiftSlot k).count ≤ k.count := by
  unfold shiftSlot
  split
  · exact Nat.sub_le _ _
  · exact Nat.le_refl _

theorem shiftSlots_count_le {n bound : Nat} {slots : List Slot} (h : ∀ k ∈ slots, k.count ≤ bound) :
    ∀ k ∈ shiftSlots n slots, k.count ≤ bound := by
  intro k hk
  obtain hk | hk := List.mem_append.mp hk
  · obtain ⟨j, hj, rfl⟩ := List.mem_map.mp hk
    exact Nat.le_trans (shiftSlot_count_le j) (h j (List.mem_of_mem_take hj))
  · exact h k (List.mem_of_mem_drop hk)

/-- A dot that writes a pixel, whole (R240, R245). -/
theorem writePixel_eq (s : State) : writePixel s =
    { s with
      bgLo := s.bgLo <<< 1, bgHi := s.bgHi <<< 1, bgCount := s.bgCount - 1
      slots := shiftSlots s.queue.length s.slots, cursor := s.cursor + 1
      fb := Memory.write s.fb (pixelKey s.ly s.cursor) (mixShade s) } := rfl

/-- A pixel keeps all the invariant asks but, in PIXEL_TRANSFER, the budget of the line, which depends on what comes next. -/
theorem Inv.after_writePixel {s : State} (h : Inv s) (hly : s.ly.toNat ≤ 143) (hcursor : s.cursor < 160)
    (hdots : s.mode = .pixelTransfer →
      80 ≤ s.dot ∧ s.cursor + 1 < 160 ∧ s.dot + transferDotsLeft (writePixel s) ≤ 331) : Inv (writePixel s) := by
  rw [writePixel_eq] at hdots ⊢
  exact { h with
    transfer_dots := hdots
    bg_count_le := Nat.le_trans (Nat.sub_le _ _) h.bg_count_le
    cursor_le := hcursor
    slots_length := (shiftSlots_length _ _).trans h.slots_length
    slot_count_le := shiftSlots_count_le h.slot_count_le
    fb_wf := storePixel_wf (mixShade s) hly hcursor h.fb_wf }

/-- The pixel does not look at the mode, the dot or the outputs. -/
theorem enterHblank_writePixel (s : State) :
    enterHblank (countDot (writePixel s)) = writePixel (enterHblank (countDot s)) := by
  rw [writePixel_eq, writePixel_eq]
  rfl

/-- What the mixer can do (R240): stall, drop a pixel, write one. -/
theorem mixDot_cases (s : State) :
    (s.bgCount = 0 ∧ mixDot s = s) ∨
      (0 < s.bgCount ∧ 0 < s.discard ∧ mixDot s = { shiftBg s with discard := s.discard - 1 }) ∨
      (0 < s.bgCount ∧ mixDot s = writePixel s) := by
  unfold mixDot
  split
  next hempty => exact .inl ⟨hempty, rfl⟩
  next hfull =>
    split
    next hdiscard => exact .inr (.inl ⟨Nat.pos_of_ne_zero hfull, hdiscard, rfl⟩)
    next => exact .inr (.inr ⟨Nat.pos_of_ne_zero hfull, rfl⟩)

/-- Each thing the mixer can do spends a dot: of the stall, of the discard count, or of the columns. -/
theorem mixDot_transferDotsLeft_lt {s : State} (hcursor : s.cursor < 160) : transferDotsLeft (mixDot s) < mixDotsLeft s := by
  obtain ⟨hempty, heq⟩ | ⟨hfull, hdiscard, heq⟩ | ⟨hfull, heq⟩ := mixDot_cases s
  · have hpos := fetchDotsLeft_pos s
    rw [heq, transferDotsLeft, stallDotsLeft, mixDotsLeft]
    omega
  · rw [heq, mixDotsLeft]
    change 160 - s.cursor + (s.discard - 1) + (fetchDotsLeft s - (s.bgCount - 1) - 1) + spriteDotsLeft s +
      windowDotsLeft s < _
    omega
  · rw [heq, writePixel_eq, mixDotsLeft]
    change 160 - (s.cursor + 1) + s.discard + (fetchDotsLeft s - (s.bgCount - 1) - 1) + spriteDotsLeft s +
      windowDotsLeft s < _
    omega

/-- The mixer's dot keeps the invariant; the 160th pixel ends it in HBLANK (R155). -/
theorem Inv.after_mixDot {s : State} (h : Inv s) (hmode : s.mode = .pixelTransfer) (hidle : s.sactive = false)
    (hdots : s.dot + mixDotsLeft s ≤ 331) : Inv (afterTransfer (countDot (mixDot s))) := by
  obtain ⟨h80, hcursor, -⟩ := h.transfer_dots hmode
  have hspent : s.dot + transferDotsLeft (mixDot s) < 331 :=
    Nat.lt_of_lt_of_le (Nat.add_lt_add_left (mixDot_transferDotsLeft_lt hcursor) _) hdots
  obtain ⟨-, heq⟩ | ⟨-, -, heq⟩ | ⟨-, heq⟩ := mixDot_cases s
  · rw [heq] at hspent ⊢
    exact h.after_unfinished hmode hspent
  · rw [heq] at hspent ⊢
    refine Inv.after_unfinished ?_ hmode hspent
    exact { h with
      transfer_dots := fun _ => ⟨h80, hcursor, Nat.le_of_lt hspent⟩
      bg_count_le := Nat.le_trans (Nat.sub_le _ _) h.bg_count_le
      discard_le := Nat.le_trans (Nat.sub_le _ _) h.discard_le }
  · rw [heq] at hspent ⊢
    have hly : s.ly.toNat ≤ 143 := h.visible_line (by rw [hmode]; nofun)
    by_cases hlast : s.cursor + 1 = 160
    · have henter : afterTransfer (countDot (writePixel s)) = enterHblank (countDot (writePixel s)) := if_pos hlast
      rw [henter, enterHblank_writePixel]
      exact (h.after_enterHblank hmode hidle).after_writePixel hly hcursor nofun
    · exact (h.after_writePixel hly hcursor fun _ => ⟨h80, by omega, Nat.le_of_lt hspent⟩).after_unfinished hmode hspent

/-! ## The whole dot -/

theorem Inv.after_fetchingDot {s : State} (h : Inv s) (hactive : s.sactive = true) :
    Inv (afterTransfer (countDot (spriteFetchDot s))) := by
  obtain ⟨hmode, -, -⟩ := h.sprite_fetch hactive
  obtain ⟨-, -, hdots⟩ := h.transfer_dots hmode
  obtain ⟨hinv, hlt⟩ := h.after_spriteFetchDot hactive
  exact hinv.after_unfinished (by rw [spriteFetchDot_mode, hmode]) (by rw [spriteFetchDot_dot]; omega)

theorem Inv.after_mixingDot {s : State} (h : Inv s) (hmode : s.mode = .pixelTransfer) (hidle : s.sactive = false) :
    Inv (afterTransfer (countDot (mixDot (bgFetchDot s)))) := by
  obtain ⟨-, -, hdots⟩ := h.transfer_dots hmode
  refine (h.after_bgFetchDot hidle).after_mixDot (by rw [bgFetchDot_mode, hmode]) (by rw [bgFetchDot_sactive, hidle]) ?_
  rwa [bgFetchDot_dot, bgFetchDot_mixDotsLeft]

theorem transferDot_of_active {s : State} (hactive : s.sactive = true) : transferDot s = spriteFetchDot s := by
  simp only [transferDot, hactive, if_true]

theorem transferDot_of_idle {s : State} (hidle : s.sactive = false) :
    transferDot s = if (spriteCheck (windowCheck s)).sactive then spriteFetchDot (spriteCheck (windowCheck s))
      else mixDot (bgFetchDot (spriteCheck (windowCheck s))) := by
  simp only [transferDot, hidle, Bool.false_eq_true, if_false]

/-- A PIXEL_TRANSFER dot keeps the invariant (R154), and so R158's overrun is not reached. -/
theorem Inv.after_transferDot {s : State} (h : Inv s) (hmode : s.mode = .pixelTransfer) :
    Inv (afterTransfer (countDot (transferDot s))) := by
  cases hactive : s.sactive with
  | true =>
    rw [transferDot_of_active hactive]
    exact h.after_fetchingDot hactive
  | false =>
    have hchecked : Inv (spriteCheck (windowCheck s)) := (h.after_windowCheck hactive).after_spriteCheck
      (by rw [windowCheck_mode, hmode]) (by rw [windowCheck_sactive, hactive])
    rw [transferDot_of_idle hactive]
    split
    next htrig => exact hchecked.after_fetchingDot htrig
    next hidle =>
      exact hchecked.after_mixingDot (by rw [spriteCheck_mode, windowCheck_mode, hmode]) (Bool.eq_false_iff.mpr hidle)

end Sys2Proof.Machine
end

section
/-! Every request keeps the invariant (R32, R33, R35 to R41): a dot of each mode, the display power, and the writes. -/

namespace Sys2Proof.Machine

theorem Inv.after_clearOut {s : State} (h : Inv s) : Inv (clearOut s) := { h with }

/-- A sprite fetch runs in PIXEL_TRANSFER only (R221). -/
theorem Inv.idle_of_mode {s : State} (h : Inv s) (hmode : s.mode ≠ .pixelTransfer) : s.sactive ≠ true := fun hactive =>
  have ⟨htransfer, _, _⟩ := h.sprite_fetch hactive
  hmode htransfer

/-! ## OAM_SEARCH and the entry of PIXEL_TRANSFER -/

theorem windowDotsLeft_le (s : State) : windowDotsLeft s ≤ 7 := by
  unfold windowDotsLeft
  split <;> omega

theorem enterTransfer_discard_le (s : State) : (enterTransfer s).discard ≤ 7 := by
  rw [enterTransfer_eq]
  dsimp only
  split <;> omega

/-- The most a line can need (R169): 251 dots with ten sprites. -/
theorem enterTransfer_transferDotsLeft_le (s : State) :
    transferDotsLeft (enterTransfer s) ≤ 181 + 7 * s.queue.length := by
  have hdiscard := enterTransfer_discard_le s
  have hwindow := windowDotsLeft_le (enterTransfer s)
  change 160 + (enterTransfer s).discard + 7 + 7 * s.queue.length + windowDotsLeft (enterTransfer s) ≤ _
  omega

theorem emptySlots_count_le : ∀ k ∈ emptySlots, k.count ≤ 8 := by
  intro k hk
  rw [List.eq_of_mem_replicate hk]
  exact Nat.zero_le _

theorem Inv.after_enterTransfer {s : State} (h : Inv s) (hmode : s.mode = .oamSearch) (hlast : s.dot + 1 = 80) :
    Inv (enterTransfer (countDot s)) := by
  have hon := h.on_of_mode (by rw [hmode]; nofun)
  have hline := h.visible_line (by rw [hmode]; nofun)
  have hqueue : (countDot s).queue.length ≤ 10 := h.queue_length
  have hneed := enterTransfer_transferDotsLeft_le (countDot s)
  have hdots : s.dot + 1 + transferDotsLeft (enterTransfer (countDot s)) ≤ 331 := by omega
  have hdiscard := enterTransfer_discard_le (countDot s)
  rw [enterTransfer_eq] at hdots hdiscard ⊢
  exact { h with
    dot_lt := show s.dot + 1 < 456 by omega
    off_rest := fun hoff => absurd hoff (not_off_of_on hon)
    visible_line := fun _ => hline
    oam_dots := nofun
    transfer_dots := fun _ => ⟨Nat.le_of_eq hlast.symm, Nat.succ_pos _, hdots⟩
    head_le := Nat.zero_le _
    bg_count_le := Nat.zero_le _
    discard_le := hdiscard
    cursor_le := Nat.zero_le _
    sprite_fetch := nofun
    slots_length := List.length_replicate
    slot_count_le := emptySlots_count_le }

theorem Inv.after_oamDot {s : State} (h : Inv s) (hmode : s.mode = .oamSearch) : Inv (oamDot s) := by
  by_cases hlast : s.dot + 1 = 80
  · rw [oamDot_of_last hlast]
    exact h.after_enterTransfer hmode hlast
  · have hdot := h.oam_dots hmode
    rw [oamDot_of_inner hlast]
    exact { h with
      dot_lt := show s.dot + 1 < 456 by omega
      off_rest := fun hoff => absurd hoff (not_off_of_on (h.on_of_mode (by rw [hmode]; nofun)))
      oam_dots := fun _ => show s.dot + 1 < 80 by omega
      transfer_dots := fun hm => absurd (hmode.symm.trans hm) nofun }

/-! ## HBLANK, VBLANK and the end of a line -/

theorem Inv.after_enterOam {s : State} (h : Inv s) (hon : s.lcdc.getLsbD 7 = true) (hline : s.ly.toNat ≤ 143)
    (hdot : s.dot = 0) (hidle : s.sactive ≠ true) : Inv (enterOam s) :=
  { h with
    off_rest := fun hoff => absurd hoff (not_off_of_on hon)
    visible_line := fun _ => hline
    oam_dots := fun _ => show s.dot < 80 by omega
    transfer_dots := nofun
    queue_length := oamScan_length_le _
    queue_sorted := oamScan_sorted _
    head_le := Nat.zero_le _
    sprite_fetch := fun hactive => absurd hactive hidle }

theorem Inv.after_enterVblank {s : State} (h : Inv { s with mode := .vblank }) : Inv (enterVblank s) := { h with }

/-- OAM_SEARCH entry does not look at the mode it leaves (R159). -/
theorem enterOam_setMode (m : Mode) (s : State) : enterOam { s with mode := m } = enterOam s := rfl

/-- Between two lines the invariant holds up to the mode, which is not chosen yet: VBLANK is right on every line. -/
theorem Inv.after_lineCounted {s : State} (h : Inv s) (hon : s.lcdc.getLsbD 7 = true) (hidle : s.sactive ≠ true) :
    Inv { lineCounted s with mode := .vblank } := by
  rw [lineCounted_eq]
  exact { h with
    dot_lt := Nat.succ_pos _
    ly_le := nextLy_le h.ly_le
    coin_eq := rfl
    off_rest := fun hoff => absurd hoff (not_off_of_on hon)
    visible_line := fun hm => absurd rfl hm
    oam_dots := nofun
    transfer_dots := nofun
    sprite_fetch := fun hactive => absurd hactive hidle }

theorem nextLy_le_of_ne {ly : Byte} (hvisible : ly.toNat ≤ 143) (hne : nextLy ly ≠ 144) : (nextLy ly).toNat ≤ 143 := by
  unfold nextLy at hne ⊢
  split at hne
  · rw [if_pos ‹_›]
    decide
  · rw [if_neg ‹_›]
    bv_omega

/-- The last dot of a line keeps the invariant, by the three ways to go on (R157). -/
theorem Inv.after_lastDot {s : State} (h : Inv s) (hends : endsLine s) : Inv (stepDot (clearOut s)) := by
  obtain ⟨hon, -, hmode⟩ := id hends
  have hidle := h.idle_of_mode (by rcases hmode with hm | hm <;> rw [hm] <;> nofun)
  have hcounted := h.after_lineCounted hon hidle
  obtain ⟨-, -, hnext⟩ | ⟨hsearch, hnext⟩ | ⟨hm, -, hnext⟩ := stepDot_cases_of_endsLine hends
  · rw [hnext]
    exact hcounted.after_enterVblank
  · have hline : (nextLy s.ly).toNat ≤ 143 := by
      obtain ⟨hm, hly⟩ | ⟨-, hly⟩ := hsearch
      · exact nextLy_le_of_ne (h.visible_line (by rw [hm]; nofun)) hly
      · rw [hly]
        decide
    rw [hnext, ← enterOam_setMode .vblank]
    exact hcounted.after_enterOam hon (by rwa [lineCounted_ly]) (lineCounted_dot s) hidle
  · rw [← hm, ← lineCounted_mode] at hcounted
    rwa [hnext]

theorem Inv.after_blankDot {s : State} (h : Inv s) (hon : s.lcdc.getLsbD 7 = true)
    (hmode : s.mode = .hblank ∨ s.mode = .vblank) : Inv (stepDot (clearOut s)) := by
  by_cases hlast : s.dot = 455
  · exact h.after_lastDot ⟨hon, hlast, hmode⟩
  · have hdot := h.dot_lt
    rw [stepDot_of_blank (s := clearOut s) hon hmode, blankDot_of_inner (s := clearOut s) hlast]
    exact { h with
      dot_lt := show s.dot + 1 < 456 by omega
      off_rest := fun hoff => absurd hoff (not_off_of_on hon)
      oam_dots := fun hm => by rcases hmode with hm' | hm' <;> cases hm'.symm.trans hm
      transfer_dots := fun hm => by rcases hmode with hm' | hm' <;> cases hm'.symm.trans hm }

/-! ## The requests -/

/-- STEP keeps the invariant, by the mode the dot falls in (R150). -/
theorem Inv.after_step {s : State} (h : Inv s) : Inv (stepDot (clearOut s)) := by
  cases hpower : lcdOn s with
  | false =>
    rw [stepDot_of_off (s := clearOut s) hpower]
    exact h.after_clearOut
  | true =>
    cases hmode : s.mode with
    | hblank => exact h.after_blankDot hpower (.inl hmode)
    | vblank => exact h.after_blankDot hpower (.inr hmode)
    | oamSearch =>
      rw [stepDot_of_search (s := clearOut s) hpower hmode]
      exact h.after_clearOut.after_oamDot hmode
    | pixelTransfer =>
      rw [stepDot_of_transfer (s := clearOut s) hpower hmode]
      exact h.after_clearOut.after_transferDot hmode

theorem Inv.after_displayOff {s : State} (h : Inv s) (d : Byte) : Inv (displayOff { s with lcdc := d, out := {} }) := by
  rw [displayOff, updateCoincidence_silent]
  exact { h with
    dot_lt := Nat.succ_pos _
    ly_le := Nat.zero_le _
    coin_eq := rfl
    off_rest := fun _ => ⟨rfl, rfl, rfl⟩
    visible_line := fun _ => Nat.zero_le _
    oam_dots := nofun
    transfer_dots := nofun
    queue_length := Nat.zero_le _
    queue_sorted := .nil
    head_le := Nat.le_refl _
    sprite_fetch := nofun }

theorem Inv.after_displayOn {s : State} (h : Inv s) (hoff : s.lcdc.getLsbD 7 = false) {d : Byte}
    (hon : d.getLsbD 7 = true) : Inv (displayOn { s with lcdc := d, out := {} }) := by
  obtain ⟨hly, -, hmode⟩ := h.off_rest hoff
  have hwritten : Inv { s with lcdc := d, dot := 0, out := {} } := { h with
    dot_lt := Nat.succ_pos _
    off_rest := fun hoff => absurd hoff (not_off_of_on hon)
    oam_dots := fun hm => absurd (hmode.symm.trans hm) nofun
    transfer_dots := fun hm => absurd (hmode.symm.trans hm) nofun }
  exact hwritten.after_enterOam hon (by rw [hly]; decide) rfl (h.idle_of_mode (by rw [hmode]; nofun))

/-- A write of LCDC keeps the invariant, which looks at no bit of it but 7: by the power change it makes (R123). -/
theorem Inv.after_wrLcdc {s : State} (h : Inv s) (d : Byte) :
    Inv (switchDisplay (lcdOn s) { s with lcdc := d, out := {} }) := by
  by_cases hsame : d.getLsbD 7 = s.lcdc.getLsbD 7
  · rw [switchDisplay_of_same (s := { s with lcdc := d, out := {} }) (wasOn := lcdOn s) hsame]
    exact { h with off_rest := fun hoff => h.off_rest (hsame.symm.trans hoff) }
  · cases hd : d.getLsbD 7 with
    | false =>
      have hs : lcdOn s = true := Bool.of_not_eq_false fun hs => hsame (hd.trans hs.symm)
      rw [hs, switchDisplay_of_falls (s := { s with lcdc := d, out := {} }) hd]
      exact h.after_displayOff d
    | true =>
      have hs : lcdOn s = false := Bool.of_not_eq_true fun hs => hsame (hd.trans hs.symm)
      rw [hs, switchDisplay_of_rises (s := { s with lcdc := d, out := {} }) hd]
      exact h.after_displayOn hs hd

/-- Every request keeps the invariant. -/
theorem Inv.after_exec {i : Instr} {s t : State} (h : Inv s) (hexec : exec i s = .next t) : Inv t := by
  cases i with
  | step => cases hexec; exact h.after_step
  | wrLcdc d => cases hexec; exact h.after_wrLcdc d
  | wrLyc d => cases hexec; exact { h with coin_eq := rfl }
  | vwr a d =>
    cases hexec
    split
    · exact { h with vram_wf := storeVram_wf a d h.vram_wf }
    · exact h.after_clearOut
  | owr a d =>
    cases hexec
    split
    · exact { h with oam_wf := storeOam_wf a d h.oam_wf }
    · exact h.after_clearOut
  | dma a d => cases hexec; exact { h with oam_wf := storeOam_wf a d h.oam_wf }
  | _ => cases hexec; exact { h with }

/-- Every request answers a next state. -/
theorem exec_answers (i : Instr) (s : State) : ∃ t, exec i s = .next t := by
  cases i <;> exact ⟨_, rfl⟩

end Sys2Proof.Machine
end

section
/-! The frame (R164): while the display stays on, each STEP moves the sequencer one place on in a cycle of 70224, and no
other request moves it. Settles O57. -/

namespace Sys2Proof.Machine

/-! ## The dot counter and LCDC under a dot -/

@[simp] theorem countDot_dot (s : State) : (countDot s).dot = s.dot + 1 := rfl

@[simp] theorem oamDot_dot (s : State) : (oamDot s).dot = s.dot + 1 := by
  unfold oamDot
  split
  · rw [enterTransfer_frame, countDot_dot]
  · rfl

/-- The dot counter goes on by one, unless the line ends (R150, R157). -/
theorem stepDot_dot_of_inner {s : State} (hon : s.lcdc.getLsbD 7 = true) (hinner : ¬ endsLine s) :
    (stepDot s).dot = s.dot + 1 := by
  have hblank (hm : s.mode = .hblank ∨ s.mode = .vblank) : (stepDot s).dot = s.dot + 1 := by
    rw [stepDot_of_blank hon hm, blankDot_of_inner fun hlast => hinner ⟨hon, hlast, hm⟩, countDot_dot]
  cases hm : s.mode with
  | hblank => exact hblank (.inl hm)
  | vblank => exact hblank (.inr hm)
  | oamSearch => rw [stepDot_of_search hon hm, oamDot_dot]
  | pixelTransfer => rw [stepDot_of_transfer hon hm, afterTransfer_dot, countDot_dot, transferDot_dot]

@[simp] theorem oamDot_lcdc (s : State) : (oamDot s).lcdc = s.lcdc := by
  unfold oamDot
  split
  · rw [enterTransfer_frame]
    rfl
  · rfl

@[simp] theorem blankDot_lcdc (s : State) : (blankDot s).lcdc = s.lcdc := by
  unfold blankDot
  split
  · rw [endOfLine_frame]
    rfl
  · rfl

@[simp] theorem stepDot_lcdc (s : State) : (stepDot s).lcdc = s.lcdc := by
  unfold stepDot
  split
  · split
    · exact oamDot_lcdc s
    · exact (afterTransfer_lcdc _).trans (transferDot_lcdc s)
    · exact blankDot_lcdc s
    · exact blankDot_lcdc s
  · rfl

/-- A request other than STEP moves the sequencer only by a change of the display power (R73, R123). -/
theorem exec_keeps_place {i : Instr} {s t : State} (hexec : exec i s = .next t) (hstep : i ≠ .step)
    (hpower : ∀ d, i = .wrLcdc d → d.getLsbD 7 = s.lcdc.getLsbD 7) :
    t.lcdc.getLsbD 7 = s.lcdc.getLsbD 7 ∧ t.mode = s.mode ∧ t.ly = s.ly ∧ t.dot = s.dot := by
  cases i with
  | step => exact absurd rfl hstep
  | wrLcdc d =>
    have hsame := hpower d rfl
    rw [exec_wrLcdc, switchDisplay_of_same (s := { s with lcdc := d, out := {} }) (wasOn := lcdOn s) hsame] at hexec
    cases hexec
    exact ⟨hsame, rfl, rfl, rfl⟩
  | vwr a d => cases hexec; split <;> exact ⟨rfl, rfl, rfl, rfl⟩
  | owr a d => cases hexec; split <;> exact ⟨rfl, rfl, rfl, rfl⟩
  | _ => cases hexec; exact ⟨rfl, rfl, rfl, rfl⟩

/-! ## The place in the frame -/

/-- The place of the sequencer in the frame: the dots from dot 0 of line 0 (R164). -/
def framePos (s : State) : Nat := 456 * s.ly.toNat + s.dot

/-- The display is on and past its power-on frame (R281): VBLANK is lines 144..153 alone, and no line starts in HBLANK. -/
structure InFrame (s : State) : Prop where
  inv : Inv s
  on : s.lcdc.getLsbD 7 = true
  vblank_line : s.mode = .vblank → 144 ≤ s.ly.toNat
  hblank_dot : s.mode = .hblank → 0 < s.dot

theorem InFrame.framePos_lt {s : State} (h : InFrame s) : framePos s < 70224 := by
  have hly := h.inv.ly_le
  have hdot := h.inv.dot_lt
  unfold framePos
  omega

/-- Place 0 is OAM_SEARCH entry on line 0. -/
theorem InFrame.starts_iff {s : State} (h : InFrame s) :
    (s.mode = .oamSearch ∧ s.ly = 0 ∧ s.dot = 0) ↔ framePos s = 0 := by
  unfold framePos
  constructor
  · rintro ⟨-, hly, hdot⟩
    rw [hly, hdot]
    rfl
  · intro hpos
    have hly : s.ly = 0 := BitVec.eq_of_toNat_eq (show s.ly.toNat = 0 by omega)
    refine ⟨?_, hly, by omega⟩
    cases hm : s.mode with
    | oamSearch => rfl
    | hblank => have := h.hblank_dot hm; omega
    | vblank => have := h.vblank_line hm; omega
    | pixelTransfer => have := h.inv.transfer_dots hm; omega

/-- OAM_SEARCH and PIXEL_TRANSFER are over by dot 331 (R33, R169), so every line ends at dot 455. -/
theorem InFrame.endsLine_iff {s : State} (h : InFrame s) : endsLine s ↔ s.dot = 455 := by
  refine ⟨fun ⟨_, hdot, _⟩ => hdot, fun hdot => ⟨h.on, hdot, ?_⟩⟩
  cases hm : s.mode with
  | hblank => exact .inl rfl
  | vblank => exact .inr rfl
  | oamSearch => have := h.inv.oam_dots hm; omega
  | pixelTransfer => have := h.inv.transfer_dots hm; omega

theorem toNat_nextLy {ly : Byte} (h : ly.toNat ≤ 153) : (nextLy ly).toNat = (ly.toNat + 1) % 154 := by
  unfold nextLy
  split
  next hlast => rw [hlast]; rfl
  next hnext => bv_omega

theorem InFrame.framePos_step {s : State} (h : InFrame s) :
    framePos (stepDot (clearOut s)) = (framePos s + 1) % 70224 := by
  have hly := h.inv.ly_le
  have hdot := h.inv.dot_lt
  by_cases hends : endsLine s
  · have hlast := h.endsLine_iff.mp hends
    rw [stepDot_of_endsLine hends, framePos, startLine_ly, startLine_dot, lineCounted_ly, lineCounted_dot,
      toNat_nextLy hly, framePos]
    omega
  · have hinner := mt h.endsLine_iff.mpr hends
    rw [framePos, stepDot_ly, if_neg (show ¬ endsLine (clearOut s) from hends),
      stepDot_dot_of_inner (s := clearOut s) h.on hends, clearOut_ly, clearOut_dot, framePos]
    omega

/-- A line that ends is followed by OAM_SEARCH, or by VBLANK on lines 144..153 (R157). -/
theorem InFrame.mode_of_endsLine {s : State} (h : InFrame s) (hends : endsLine s) :
    (stepDot (clearOut s)).mode = .oamSearch ∨
      ((stepDot (clearOut s)).mode = .vblank ∧ 144 ≤ (nextLy s.ly).toNat) := by
  obtain ⟨-, hly, hnext⟩ | ⟨-, hnext⟩ | ⟨hm, hly, hnext⟩ := stepDot_cases_of_endsLine hends
  · rw [hnext, hly]
    exact .inr ⟨rfl, by decide⟩
  · rw [hnext]
    exact .inl rfl
  · have hle := h.inv.ly_le
    have hline := h.vblank_line hm
    have hpos : (nextLy s.ly).toNat ≠ 0 := fun h0 => hly (BitVec.eq_of_toNat_eq h0)
    rw [toNat_nextLy hle] at hpos
    rw [hnext, lineCounted_mode, toNat_nextLy hle]
    exact .inr ⟨hm, by omega⟩

theorem InFrame.after_step {s : State} (h : InFrame s) : InFrame (stepDot (clearOut s)) := by
  have hinv := h.inv.after_step
  have hon : (stepDot (clearOut s)).lcdc.getLsbD 7 = true := by rw [stepDot_lcdc]; exact h.on
  by_cases hends : endsLine s
  · obtain hm | ⟨hm, hline⟩ := h.mode_of_endsLine hends
    · exact ⟨hinv, hon, by rw [hm]; nofun, by rw [hm]; nofun⟩
    · refine ⟨hinv, hon, fun _ => ?_, by rw [hm]; nofun⟩
      rwa [stepDot_of_endsLine hends, startLine_ly]
  · refine ⟨hinv, hon, fun hvblank => ?_, fun _ => ?_⟩
    · by_cases hm : s.mode = .vblank
      · rw [stepDot_ly, if_neg (show ¬ endsLine (clearOut s) from hends)]
        exact h.vblank_line hm
      · rw [stepDot_ly_of_enters_vblank (s := clearOut s) hm hvblank]
        decide
    · rw [stepDot_dot_of_inner (s := clearOut s) h.on hends]
      exact Nat.succ_pos _

/-! ## Sequences of requests -/

/-- A request that keeps the display on moves the place on by one if it is a STEP, and otherwise not. -/
theorem InFrame.after_exec {i : Instr} {s t : State} (h : InFrame s) (hexec : exec i s = .next t)
    (hpower : ∀ d, i = .wrLcdc d → d.getLsbD 7 = true) :
    InFrame t ∧ framePos t = (framePos s + if i = .step then 1 else 0) % 70224 := by
  by_cases hstep : i = .step
  · subst hstep
    cases hexec
    exact ⟨h.after_step, h.framePos_step⟩
  · obtain ⟨hon, hmode, hly, hdot⟩ := exec_keeps_place hexec hstep fun d hd => (hpower d hd).trans h.on.symm
    have hplace : framePos t = framePos s := by rw [framePos, hly, hdot, framePos]
    refine ⟨⟨h.inv.after_exec hexec, hon.trans h.on, ?_, ?_⟩, ?_⟩
    · rw [hmode, hly]
      exact h.vblank_line
    · rw [hmode, hdot]
      exact h.hblank_dot
    · rw [hplace, if_neg hstep]
      exact (Nat.mod_eq_of_lt h.framePos_lt).symm

theorem InFrame.after_execAll {requests : List Instr} {s : State} (h : InFrame s)
    (hpower : ∀ d, Instr.wrLcdc d ∈ requests → d.getLsbD 7 = true) :
    ∃ t, execAll requests s = .next t ∧ InFrame t ∧ framePos t = (framePos s + requests.count .step) % 70224 := by
  induction requests generalizing s with
  | nil => exact ⟨s, rfl, h, (Nat.mod_eq_of_lt h.framePos_lt).symm⟩
  | cons i rest ih =>
    obtain ⟨u, hu⟩ := exec_answers i s
    obtain ⟨huframe, hupos⟩ := h.after_exec hu fun d hd => hpower d (hd ▸ List.mem_cons_self)
    obtain ⟨t, ht, htframe, htpos⟩ := ih huframe fun d hd => hpower d (List.mem_cons_of_mem i hd)
    refine ⟨t, by rw [execAll, hu]; exact ht, htframe, ?_⟩
    rw [htpos, hupos, List.count_cons]
    simp only [beq_iff_eq]
    omega

/-- Settles O57, by induction on the requests: the place after them is the number of STEPs modulo 70224, and place 0 is
OAM_SEARCH entry on line 0. -/
theorem everyFrameTakes70224Steps : Obligations.EveryFrameTakes70224Steps := by
  intro s requests hinv hon hmode hly hdot hpower
  have hframe : InFrame s := ⟨hinv, hon, by rw [hmode]; nofun, by rw [hmode]; nofun⟩
  have hzero : framePos s = 0 := hframe.starts_iff.mp ⟨hmode, hly, hdot⟩
  obtain ⟨t, ht, htframe, htpos⟩ := hframe.after_execAll hpower
  refine ⟨t, ht, htframe.starts_iff.trans ?_⟩
  rw [htpos, hzero, Nat.zero_add]

end Sys2Proof.Machine
end

section
/-! The OAM scanner (43_oam_scanner.md): the vertical extent of an entry (R181), and the queue a scan leaves (R180, R182,
R183). Settles O41 and O42. -/

namespace Sys2Proof.Machine

/-! ## The vertical extent -/

/-- `visible(y, h)` moved to the entry's top row `y - 16`, as integers (R181). -/
theorem spriteVisible_iff {ly y : Byte} {h : Nat} :
    spriteVisible ly y h = true ↔ (y.toNat : Int) - 16 ≤ ly.toNat ∧ (ly.toNat : Int) < y.toNat - 16 + h := by
  rw [spriteVisible, Bool.and_eq_true, decide_eq_true_iff, decide_eq_true_iff]
  omega

/-- An entry whose last row lies above line 0 is on no line. -/
theorem spriteVisible_eq_false_of_above {ly y : Byte} {h : Nat} (habove : y.toNat + h ≤ 16) :
    spriteVisible ly y h = false := by
  rw [← Bool.not_eq_true, spriteVisible_iff]
  omega

/-- An entry is not on a line above its first row. -/
theorem spriteVisible_eq_false_of_below {ly y : Byte} {h : Nat} (hbelow : ly.toNat + 16 < y.toNat) :
    spriteVisible ly y h = false := by
  rw [← Bool.not_eq_true, spriteVisible_iff]
  omega

/-- Settles O42: `y` counts rows from 16 above line 0, so an entry with `y` 0 ends above line 0 at either height, and one with
`y` 160 begins below line 143. -/
theorem spriteVisibilityIsItsVerticalExtent : Obligations.SpriteVisibilityIsItsVerticalExtent := by
  intro ly y h hheight
  refine ⟨spriteVisible_iff, fun hy => ?_, fun hy hly => ?_⟩
  · have hzero : y.toNat = 0 := by rw [hy]; rfl
    exact spriteVisible_eq_false_of_above (by omega)
  · exact spriteVisible_eq_false_of_below (by omega)

/-! ## The scan -/

/-- The scan chooses table indices: the first ten whose entry is visible, each then read from the table (R180, R182). -/
theorem scanLine_eq_map_oamEntry (s : State) :
    scanLine s = (((List.range 40).filter fun k => spriteVisible s.ly (oamEntry s k).y (objHeight s)).take 10).map
      (oamEntry s) := by
  rw [scanLine, List.filter_map, List.map_take]
  rfl

/-- The queue holds exactly the entries the scan takes. -/
theorem oamScan_queue_perm (s : State) : (oamScan s).queue.Perm (scanLine s) := sortByX_perm (scanLine s)

/-- Settles O41: the taken entries by their table indices, sorted by `sortByX`, which keeps the entries and orders them. -/
theorem scanQueuesTheFirstTenVisibleSorted : Obligations.ScanQueuesTheFirstTenVisibleSorted := by
  intro s height entry visible q
  have hvisible : visible = fun k => spriteVisible s.ly (oamEntry s k).y (objHeight s) :=
    funext fun k => Bool.eq_iff_iff.2 (decide_eq_true_iff.trans spriteVisible_iff.symm)
  have htaken : scanLine s = (((List.range 40).filter visible).take 10).map entry := by
    rw [hvisible]
    exact scanLine_eq_map_oamEntry s
  exact ⟨htaken ▸ oamScan_queue_perm s, oamScan_sorted s, oamScan_frame s⟩

end Sys2Proof.Machine
end

section
/-! The plain dot of PIXEL_TRANSFER (R154): the background fetcher's dot by phase (R191 to R195), with its addresses (R196,
R197), then the mixer's. Settles O45. -/

namespace Sys2Proof.Machine

/-! ## The fetcher's dot by phase -/

theorem bgFetchDot_of_first {s : State} (hsub : s.fsub = false) : bgFetchDot s = { s with fsub := true } :=
  if_neg (Bool.eq_false_iff.mp hsub)

theorem bgFetchDot_of_ti {s : State} (hsub : s.fsub = true) (hphase : s.fphase = .ti) :
    bgFetchDot s = fetchTileIndex s := by
  rw [bgFetchDot, if_pos hsub, hphase]

theorem bgFetchDot_of_lo {s : State} (hsub : s.fsub = true) (hphase : s.fphase = .lo) :
    bgFetchDot s = fetchLowPlane s := by
  rw [bgFetchDot, if_pos hsub, hphase]

theorem bgFetchDot_of_hi {s : State} (hsub : s.fsub = true) (hphase : s.fphase = .hi) :
    bgFetchDot s = fetchHighPlane s := by
  rw [bgFetchDot, if_pos hsub, hphase]

theorem bgFetchDot_of_push {s : State} (hsub : s.fsub = true) (hphase : s.fphase = .push) :
    bgFetchDot s = pushTile s := by
  rw [bgFetchDot, if_pos hsub, hphase]

theorem pushTile_of_empty {s : State} (hempty : s.bgCount = 0) : pushTile s =
    { s with
      bgLo := s.loLatch, bgHi := s.hiLatch, bgCount := 8
      winTile := if s.winMode then s.winTile + 1 else s.winTile
      bgTile := if s.winMode then s.bgTile else s.bgTile + 1
      fphase := .ti, fsub := false } := if_pos hempty

theorem pushTile_of_full {s : State} (hfull : s.bgCount ≠ 0) : pushTile s = s := if_neg hfull

/-! ## The addresses -/

theorem vramByte_of_lt (s : State) {a : Nat} (ha : a < 8192) : vramByte s a = Memory.read s.vram a := by
  rw [vramByte, Nat.mod_eq_of_lt ha]

theorem vramByte_mapAddr (s : State) : vramByte s (mapAddr s) = Memory.read s.vram (mapAddr s) :=
  vramByte_of_lt s (Nat.lt_succ_of_le (mapAddr_bounds s).2)

theorem vramByte_dataAddr (s : State) : vramByte s (dataAddr s) = Memory.read s.vram (dataAddr s) :=
  vramByte_of_lt s (Nat.lt_of_le_of_lt (dataAddr_le s) (by decide))

theorem vramByte_dataAddr_succ (s : State) : vramByte s (dataAddr s + 1) = Memory.read s.vram (dataAddr s + 1) :=
  vramByte_of_lt s (Nat.lt_of_le_of_lt (Nat.succ_le_succ (dataAddr_le s)) (by decide))

/-- The row of the map or the tile the line shows wraps at 256 (R196). -/
theorem bgRow_eq (s : State) : bgRow s = (s.ly.toNat + s.scy.toNat) % 256 := BitVec.toNat_add s.ly s.scy

/-- WLC is a byte, so its tile row is one of the map's 32 without a reduction (R196). -/
theorem wlc_tileRow_mod (s : State) : s.wlc.toNat / 8 % 32 = s.wlc.toNat / 8 :=
  Nat.mod_eq_of_lt (by have := s.wlc.isLt; omega)

/-! ## The mixer and the end of the dot -/

/-- A dot on which the mixer has a pixel to take shifts the pair, whether it writes the pixel or drops it (R202, R240). -/
theorem mixDot_pair_of_full {s : State} (hfull : s.bgCount ≠ 0) :
    (mixDot s).bgLo = s.bgLo <<< 1 ∧ (mixDot s).bgHi = s.bgHi <<< 1 ∧ (mixDot s).bgCount = s.bgCount - 1 := by
  obtain ⟨hempty, -⟩ | ⟨-, -, heq⟩ | ⟨-, heq⟩ := mixDot_cases s
  · exact absurd hempty hfull
  · rw [heq]
    exact ⟨rfl, rfl, rfl⟩
  · rw [heq]
    exact ⟨rfl, rfl, rfl⟩

theorem mixDot_of_empty {s : State} (hempty : s.bgCount = 0) : mixDot s = s := if_pos hempty

/-- What the 160th pixel brings, or a line that runs out before it, in one equation (R155, R158). -/
theorem afterTransfer_of_silent {s : State} (hmode : s.mode = .pixelTransfer) (hout : s.out = {}) : afterTransfer s =
    { s with
      mode := if s.cursor = 160 then .hblank else .pixelTransfer
      faulted := s.faulted || (s.cursor != 160 && s.dot == 456)
      out := if s.cursor = 160 then { stat := s.statEn.getLsbD 0 } else {} } := by
  unfold afterTransfer
  split
  next hlast => simp [enterHblank, requestStatIf, mode0Int, hlast, hout]
  next hinner =>
    split
    next hover => simp [markFaulted, hinner, hover, ← hmode, ← hout]
    next hdot =>
      rw [beq_false_of_ne hdot, Bool.and_false, Bool.or_false, ← hmode, ← hout]

theorem afterTransfer_of_inner {s : State} (hcursor : s.cursor ≠ 160) (hdot : s.dot ≠ 456) : afterTransfer s = s := by
  rw [afterTransfer, if_neg hcursor, if_neg hdot]

/-- After the fetcher's dot its phase, latches and tile counters stay for the rest of the dot. -/
theorem afterTransfer_mixDot_frame (s : State) :
    afterTransfer (countDot (mixDot s)) = { s with
      dot := s.dot + 1
      bgLo := (mixDot s).bgLo, bgHi := (mixDot s).bgHi, bgCount := (mixDot s).bgCount, discard := (mixDot s).discard
      slots := (mixDot s).slots, cursor := (mixDot s).cursor, fb := (mixDot s).fb
      mode := (afterTransfer (countDot (mixDot s))).mode, out := (afterTransfer (countDot (mixDot s))).out
      faulted := (afterTransfer (countDot (mixDot s))).faulted } := by
  rw [afterTransfer_frame, countDot, mixDot_frame]

/-- The fetcher's dot and the mixer's, before the dot is counted. -/
theorem mixDot_bgFetchDot_frame (s : State) :
    mixDot (bgFetchDot s) = { s with
      fphase := (mixDot (bgFetchDot s)).fphase, fsub := (mixDot (bgFetchDot s)).fsub
      bgTile := (mixDot (bgFetchDot s)).bgTile, winTile := (mixDot (bgFetchDot s)).winTile
      tileLatch := (mixDot (bgFetchDot s)).tileLatch, loLatch := (mixDot (bgFetchDot s)).loLatch
      hiLatch := (mixDot (bgFetchDot s)).hiLatch, bgLo := (mixDot (bgFetchDot s)).bgLo, bgHi := (mixDot (bgFetchDot s)).bgHi
      bgCount := (mixDot (bgFetchDot s)).bgCount, discard := (mixDot (bgFetchDot s)).discard
      cursor := (mixDot (bgFetchDot s)).cursor, slots := (mixDot (bgFetchDot s)).slots, fb := (mixDot (bgFetchDot s)).fb } := by
  rw [mixDot_frame, bgFetchDot_frame]

/-! ## The plain dot -/

theorem stepDot_of_transferring {s : State} (h : transferring s) :
    stepDot (clearOut s) = afterTransfer (countDot (transferDot (clearOut s))) := stepDot_of_transfer h.1 h.2

theorem stepDot_of_plainDot {s : State} (h : plainDot s) :
    stepDot (clearOut s) = afterTransfer (countDot (mixDot (bgFetchDot (clearOut s)))) := by
  obtain ⟨htransfer, hidle, hsprite, hwindow⟩ := h
  rw [stepDot_of_transferring htransfer, transferDot_of_idle (s := clearOut s) hidle,
    windowCheck_of_not_starts (s := clearOut s) hwindow, spriteCheck_of_not_triggers (s := clearOut s) hsprite,
    clearOut_sactive, hidle, if_neg Bool.false_ne_true]

theorem plainDot.frame {s : State} (h : plainDot s) : plainDotFrame s (stepDot (clearOut s)) := by
  have ⟨⟨_, hs⟩, _⟩ := h
  have hmode : (countDot (mixDot (bgFetchDot (clearOut s)))).mode = .pixelTransfer := by
    rw [mixDot_bgFetchDot_frame]
    exact hs
  have hout : (countDot (mixDot (bgFetchDot (clearOut s)))).out = {} := by
    rw [mixDot_bgFetchDot_frame]
    rfl
  rw [stepDot_of_plainDot h, afterTransfer_of_silent hmode hout, mixDot_bgFetchDot_frame]
  rfl

/-- Settles O45, by the phase and its dot: `bgFetchDot_of_…` says what the fetcher leaves, and the mixer takes the first pixel
of a pair just loaded. -/
theorem backgroundFetcherPhases : Obligations.BackgroundFetcherPhases := by
  intro s h
  refine ⟨_, exec_step s, h.frame, ?_⟩
  intro row map data
  have hmap : map = mapAddr s := by
    rw [mapAddr, wlc_tileRow_mod, bgRow_eq]
    rfl
  have hdata : data = dataAddr s := by
    rw [dataAddr, bgRow_eq]
  rw [stepDot_of_plainDot h, hmap, hdata]
  refine ⟨fun hsub => ?_, fun hsub hphase => ?_, fun hsub hphase => ?_, fun hsub hphase => ?_, fun hsub hphase => ?_⟩
  · rw [bgFetchDot_of_first (s := clearOut s) hsub, afterTransfer_mixDot_frame]
    exact ⟨rfl, rfl, rfl, rfl, rfl, rfl, rfl⟩
  · rw [bgFetchDot_of_ti (s := clearOut s) hsub hphase, afterTransfer_mixDot_frame]
    exact ⟨vramByte_mapAddr s, rfl, rfl, rfl, rfl, rfl, rfl⟩
  · rw [bgFetchDot_of_lo (s := clearOut s) hsub hphase, afterTransfer_mixDot_frame]
    exact ⟨vramByte_dataAddr s, rfl, rfl, rfl, rfl, rfl, rfl⟩
  · rw [bgFetchDot_of_hi (s := clearOut s) hsub hphase, afterTransfer_mixDot_frame]
    exact ⟨vramByte_dataAddr_succ s, rfl, rfl, rfl, rfl, rfl, rfl⟩
  · rw [bgFetchDot_of_push (s := clearOut s) hsub hphase]
    by_cases hempty : s.bgCount = 0
    · have hload := pushTile_of_empty (s := clearOut s) hempty
      have hfull : (pushTile (clearOut s)).bgCount ≠ 0 := by
        rw [hload]
        exact Nat.succ_ne_zero 7
      obtain ⟨hlo, hhi, hcount⟩ := mixDot_pair_of_full hfull
      rw [hload] at hlo hhi hcount
      rw [hload, afterTransfer_mixDot_frame]
      exact ⟨rfl, rfl, rfl, fun _ => ⟨rfl, rfl, hlo, hhi, hcount, rfl, rfl⟩, fun hne => absurd hempty hne⟩
    · rw [pushTile_of_full (s := clearOut s) hempty, afterTransfer_mixDot_frame]
      exact ⟨rfl, rfl, rfl, fun h0 => absurd h0 hempty, fun _ => ⟨hphase, hsub, rfl, rfl⟩⟩

end Sys2Proof.Machine
end

section
/-! The window start (R205): the dot on which it happens, with the sprite trigger that can fall on it (R220), and the flags on
every other dot. Settles O46. -/

namespace Sys2Proof.Machine

/-! ## The dot by whether a sprite fetch starts on it -/

/-- On the dot of its trigger the sprite fetcher does the first dot of S_ADDR, and nothing else happens (R220, R222). -/
theorem spriteFetchDot_spriteCheck_of_triggers {s : State} (h : spriteTriggers s) : spriteFetchDot (spriteCheck s) =
    { s with sactive := true, savedPhase := s.fphase, sphase := .addr, ssub := true } := by
  obtain ⟨e, he, -⟩ := h.2
  rw [spriteCheck_of_triggers h, spriteFetchDot]
  simp only [Option.mem_def.mp he, Bool.false_eq_true, if_false]

theorem transferDot_of_triggers {s : State} (hidle : s.sactive = false) (h : spriteTriggers (windowCheck s)) :
    transferDot s = { windowCheck s with
      sactive := true, savedPhase := (windowCheck s).fphase, sphase := .addr, ssub := true } := by
  have hactive : (spriteCheck (windowCheck s)).sactive = true := by rw [spriteCheck_of_triggers h]
  rw [transferDot_of_idle hidle, if_pos hactive, spriteFetchDot_spriteCheck_of_triggers h]

theorem transferDot_of_not_triggers {s : State} (hidle : s.sactive = false) (h : ¬ spriteTriggers (windowCheck s)) :
    transferDot s = mixDot (bgFetchDot (windowCheck s)) := by
  have hstill : ¬ (spriteCheck (windowCheck s)).sactive = true := by
    rw [spriteCheck_of_not_triggers h, windowCheck_sactive, hidle]
    exact Bool.false_ne_true
  rw [transferDot_of_idle hidle, if_neg hstill, spriteCheck_of_not_triggers h]

/-- A window start does not change what a sprite trigger looks at. -/
theorem spriteTriggers_windowCheck_iff (s : State) : spriteTriggers (windowCheck s) ↔ spriteTriggers s := by
  rw [windowCheck_frame]

/-! ## The window start -/

/-- The window starts on a column of the line, so WX is below 167. -/
theorem Inv.not_windowStarts_of_right {s : State} (h : Inv s) (hmode : s.mode = .pixelTransfer)
    (hwx : 167 ≤ s.wx.toNat) : ¬ windowStarts s := by
  obtain ⟨-, hcursor, -⟩ := h.transfer_dots hmode
  rintro ⟨-, -, -, -, hcol⟩
  omega

/-- The state in which the window has just started and the restarted fetch has had `sub` of its first dot (R205). -/
def windowStarted (sub : Bool) (s : State) : State :=
  { s with
    dot := s.dot + 1, out := {}, winMode := true, winDrawn := true, bgLo := 0, bgHi := 0, bgCount := 0
    fphase := .ti, winTile := 0, fsub := sub }

/-- On a window start the emptied pair stalls the mixer, and the fetcher does the first dot of TI. -/
theorem transferDot_of_windowStarts {s : State} (hidle : s.sactive = false) (hstart : windowStarts s)
    (hsprite : ¬ spriteTriggers s) : transferDot s = { windowCheck s with fsub := true } := by
  have hchecked := windowCheck_of_starts hstart
  have hsub : (windowCheck s).fsub = false := by rw [hchecked]
  rw [transferDot_of_not_triggers hidle (mt (spriteTriggers_windowCheck_iff s).mp hsprite), bgFetchDot_of_first hsub,
    mixDot_of_empty]
  rw [hchecked]

/-- A dot that writes no pixel does not end the line's PIXEL_TRANSFER (R155, R169). -/
theorem Inv.afterTransfer_of_cursor_kept {s t : State} (h : Inv s) (hmode : s.mode = .pixelTransfer)
    (hcursor : t.cursor = s.cursor) (hdot : t.dot = s.dot + 1) : afterTransfer t = t := by
  obtain ⟨-, hlt, hdots⟩ := h.transfer_dots hmode
  exact afterTransfer_of_inner (by omega) (by omega)

/-- The dot of a window start, by whether a sprite fetch starts on it too. -/
theorem stepDot_of_windowStarts {s : State} (hinv : Inv s) (h : transferring s) (hidle : s.sactive = false)
    (hstart : windowStarts s) :
    (spriteTriggers s ∧ stepDot (clearOut s) =
      { windowStarted false s with sactive := true, savedPhase := .ti, sphase := .addr, ssub := true }) ∨
    (¬ spriteTriggers s ∧ stepDot (clearOut s) = windowStarted true s) := by
  have hchecked := windowCheck_of_starts (s := clearOut s) hstart
  rw [stepDot_of_transferring h]
  by_cases hsprite : spriteTriggers s
  · have htrigger : spriteTriggers (windowCheck (clearOut s)) := (spriteTriggers_windowCheck_iff (clearOut s)).mpr hsprite
    refine .inl ⟨hsprite, ?_⟩
    rw [transferDot_of_triggers (s := clearOut s) hidle htrigger, hchecked, hinv.afterTransfer_of_cursor_kept h.2] <;> rfl
  · refine .inr ⟨hsprite, ?_⟩
    rw [transferDot_of_windowStarts (s := clearOut s) hidle hstart hsprite, hchecked,
      hinv.afterTransfer_of_cursor_kept h.2] <;> rfl

/-- Without a window start neither fetcher touches the window flags. -/
theorem transferDot_window_of_not_starts {s : State} (hidle : s.sactive = false) (h : ¬ windowStarts s) :
    (transferDot s).winMode = s.winMode ∧ (transferDot s).winDrawn = s.winDrawn := by
  rw [transferDot_of_idle hidle, windowCheck_of_not_starts h]
  split
  · rw [spriteFetchDot_frame, spriteCheck_frame]
    exact ⟨rfl, rfl⟩
  · rw [mixDot_bgFetchDot_frame, spriteCheck_frame]
    exact ⟨rfl, rfl⟩

/-- Settles O46: the start dot is `stepDot_of_windowStarts`, the other dots `transferDot_window_of_not_starts`. -/
theorem windowStartRestartsTheFetch : Obligations.WindowStartRestartsTheFetch := by
  intro s hinv h hidle
  refine ⟨_, exec_step s, fun hstart => ?_, fun hnot => ?_, hinv.not_windowStarts_of_right h.2⟩
  · have ⟨_, _, _, _, hcursor⟩ := hstart
    obtain ⟨hsprite, heq⟩ | ⟨hsprite, heq⟩ := stepDot_of_windowStarts hinv h hidle hstart
    · rw [heq]
      exact ⟨rfl, rfl, rfl, rfl, rfl, rfl, rfl, iff_of_true rfl hsprite, rfl, hcursor, nofun, rfl⟩
    · have hstill : (windowStarted true s).sactive ≠ true := Bool.eq_false_iff.mp hidle
      rw [heq]
      exact ⟨rfl, rfl, rfl, rfl, rfl, rfl, rfl, iff_of_false hstill hsprite, (congrArg Bool.not hidle).symm, hcursor,
        fun _ => ⟨rfl, rfl, rfl⟩, rfl⟩
  · rw [stepDot_of_transferring h, afterTransfer_frame]
    exact transferDot_window_of_not_starts (s := clearOut s) hidle hnot

end Sys2Proof.Machine
end

section
/-! The startup stall (R200): from PIXEL_TRANSFER entry the fetcher goes one dot on with each STEP while the pair is empty,
until it loads the pair. Settles O53. -/

namespace Sys2Proof.Machine

/-! ## STEPs in a row -/

/-- The state after `n` STEPs. -/
def afterSteps : Nat → State → State
  | 0, s => s
  | n + 1, s => stepDot (clearOut (afterSteps n s))

theorem afterSteps_succ (n : Nat) (s : State) : afterSteps (n + 1) s = stepDot (clearOut (afterSteps n s)) := rfl

/-- The first of `n + 1` STEPs can be split off as well as the last. -/
theorem afterSteps_stepDot (n : Nat) (s : State) : afterSteps n (stepDot (clearOut s)) = afterSteps (n + 1) s := by
  induction n with
  | zero => rfl
  | succ n ih => rw [afterSteps_succ, ih, ← afterSteps_succ]

/-- Every STEP answers, so a row of them does (R87). -/
theorem execSteps_eq (n : Nat) (s : State) : execSteps n s = .next (afterSteps n s) := by
  induction n generalizing s with
  | zero => rfl
  | succ n ih =>
    rw [← afterSteps_stepDot]
    exact ih (stepDot (clearOut s))

/-! ## The stall -/

/-- `k` STEPs after dot 79 of a line of the state `s`, before the first tile loads: the fetcher has done `k - 1` of the eight
dots up to its load, the pair is empty, and no pixel is written or dropped. -/
structure StartupStall (s : State) (k : Nat) (t : State) : Prop where
  lcdc : t.lcdc = s.lcdc
  queue : t.queue = s.queue
  fb : t.fb = s.fb
  mode : t.mode = .pixelTransfer
  dot : t.dot = 79 + k
  fetch : fetchDotsLeft t + k = 9
  empty : t.bgCount = 0
  cursor : t.cursor = 0
  idle : t.sactive = false
  head : t.head = 0

/-- A window that starts mid-line starts right of column 0 (R205). -/
theorem not_windowStarts_of_cursor_zero {s : State} (h : s.cursor = 0) : ¬ windowStarts s := by
  rintro ⟨-, -, -, hwx, hcol⟩
  omega

/-- A sprite whose left column is right of column 0 does not trigger there (R220). -/
theorem not_spriteTriggers_of_cursor_zero {s : State} (hcursor : s.cursor = 0) (hhead : s.head = 0)
    (hright : s.lcdc.getLsbD 1 = true → ∀ e ∈ s.queue[0]?, 8 < e.x.toNat) : ¬ spriteTriggers s := by
  rintro ⟨hobj, e, he, hle⟩
  have hx := hright hobj e (hhead ▸ he)
  omega

theorem StartupStall.plain {s t : State} {k : Nat} (h : StartupStall s k t) (hon : s.lcdc.getLsbD 7 = true)
    (hright : s.lcdc.getLsbD 1 = true → ∀ e ∈ s.queue[0]?, 8 < e.x.toNat) : plainDot t :=
  ⟨⟨h.lcdc ▸ hon, h.mode⟩, h.idle,
    not_spriteTriggers_of_cursor_zero h.cursor h.head (by rw [h.lcdc, h.queue]; exact hright),
    not_windowStarts_of_cursor_zero h.cursor⟩

/-- The last dot of OAM_SEARCH leaves a fetcher that has all eight dots to go (R153, R199). -/
theorem startupStall_one {s : State} (hon : s.lcdc.getLsbD 7 = true) (hmode : s.mode = .oamSearch) (hdot : s.dot = 79) :
    StartupStall s 1 (stepDot (clearOut s)) := by
  have hlast : (clearOut s).dot + 1 = 80 := congrArg Nat.succ hdot
  rw [stepDot_of_search (s := clearOut s) hon hmode, oamDot_of_last hlast, enterTransfer_eq]
  exact
    { lcdc := rfl, queue := rfl, fb := rfl, mode := rfl, dot := hlast, fetch := rfl, empty := rfl, cursor := rfl
      idle := rfl, head := rfl }

/-- A dot of the stall before the load takes the fetcher one dot on: of the three things `bgFetchDot` can do, the other two
need it to be at its load. -/
theorem StartupStall.succ {s t : State} {k : Nat} (h : StartupStall s k t) (hplain : plainDot t) (hk : k < 8) :
    StartupStall s (k + 1) (stepDot (clearOut t)) := by
  have hleft : fetchDotsLeft (clearOut t) + k = 9 := h.fetch
  have hzero : (clearOut t).bgCount = 0 := h.empty
  obtain ⟨-, hone, -⟩ | ⟨-, hone, -⟩ | ⟨hcount, hnext⟩ := bgFetchDot_cases (clearOut t)
  · omega
  · omega
  have hempty : (bgFetchDot (clearOut t)).bgCount = 0 := hcount.trans hzero
  have hfetch : fetchDotsLeft (bgFetchDot (clearOut t)) + (k + 1) = 9 := by omega
  rw [stepDot_of_plainDot hplain, mixDot_of_empty hempty, afterTransfer_of_inner]
  · rw [bgFetchDot_frame] at hempty hfetch ⊢
    exact
      { lcdc := h.lcdc, queue := h.queue, fb := h.fb, mode := h.mode, dot := congrArg Nat.succ h.dot, fetch := hfetch
        empty := hempty, cursor := h.cursor, idle := h.idle, head := h.head }
  · rw [bgFetchDot_frame]
    exact h.cursor ▸ Nat.zero_ne_add_one 159
  · rw [countDot_dot, bgFetchDot_dot, clearOut_dot, h.dot]
    omega

theorem startupStall_afterSteps {s : State} (hon : s.lcdc.getLsbD 7 = true) (hmode : s.mode = .oamSearch)
    (hdot : s.dot = 79) (hright : s.lcdc.getLsbD 1 = true → ∀ e ∈ s.queue[0]?, 8 < e.x.toNat) {k : Nat} (h8 : k < 8) :
    StartupStall s (k + 1) (afterSteps (k + 1) s) := by
  induction k with
  | zero => exact startupStall_one hon hmode hdot
  | succ k ih =>
    have hstall := ih (Nat.lt_of_succ_lt h8)
    rw [afterSteps_succ]
    exact hstall.succ (hstall.plain hon hright) h8

/-! ## The phase the fetcher is in -/

/-- The phase of a fetcher that has done `k - 1` of the eight dots up to its load (R190). -/
def stallPhase (k : Nat) : FetchPhase := if k < 3 then .ti else if k < 5 then .lo else if k < 7 then .hi else .push

/-- The dots left up to the load say which phase the fetcher is in, and which dot of it comes next (R190, R191). -/
theorem phase_of_fetchDotsLeft {s : State} {k : Nat} (h : fetchDotsLeft s + k = 9) :
    s.fphase = stallPhase k ∧ s.fsub = decide (k % 2 = 0) := by
  obtain rfl : k = 9 - fetchDotsLeft s := by omega
  unfold fetchDotsLeft
  cases s.fphase <;> cases s.fsub <;> decide

/-- The dot of the load: the pair takes the tile, and the mixer its first pixel (R195, R200). -/
theorem stepDot_of_load {s : State} (hplain : plainDot s) (hone : fetchDotsLeft s = 1) (hempty : s.bgCount = 0) :
    (stepDot (clearOut s)).fphase = .ti ∧ (stepDot (clearOut s)).fsub = false ∧ (stepDot (clearOut s)).bgCount = 7 := by
  obtain ⟨hphase, hsub⟩ := phase_of_fetchDotsLeft (k := 8) (congrArg (· + 8) hone)
  have hload : bgFetchDot (clearOut s) = _ :=
    (bgFetchDot_of_push (s := clearOut s) hsub hphase).trans (pushTile_of_empty (s := clearOut s) hempty)
  have hfull : (bgFetchDot (clearOut s)).bgCount ≠ 0 := by
    rw [hload]
    exact Nat.succ_ne_zero 7
  obtain ⟨-, -, hcount⟩ := mixDot_pair_of_full hfull
  rw [hload] at hcount
  rw [stepDot_of_plainDot hplain, hload, afterTransfer_mixDot_frame]
  exact ⟨rfl, rfl, hcount⟩

/-- Settles O53: the stall lasts through the eighth STEP, whose state is the load's; the ninth loads. -/
theorem startupStallIsSevenDots : Obligations.StartupStallIsSevenDots := by
  intro s hon hmode hdot hright phaseAt
  refine ⟨fun k h1 h8 => ⟨_, execSteps_eq k s, ?_⟩, _, execSteps_eq 9 s, ?_⟩
  · obtain ⟨k, rfl⟩ := Nat.exists_eq_add_of_le' h1
    have hstall := startupStall_afterSteps hon hmode hdot hright (Nat.lt_of_succ_le h8)
    obtain ⟨hphase, hsub⟩ := phase_of_fetchDotsLeft hstall.fetch
    exact ⟨hstall.dot, hphase, hsub, hstall.empty, hstall.cursor, hstall.fb⟩
  · have hstall := startupStall_afterSteps hon hmode hdot hright (k := 7) (by decide)
    have hplain := hstall.plain hon hright
    obtain ⟨hphase, hsub, hcount⟩ := stepDot_of_load hplain (Nat.add_right_cancel hstall.fetch) hstall.empty
    have hlast : (afterSteps 8 s).dot + 1 = 88 := congrArg Nat.succ hstall.dot
    rw [afterSteps_succ]
    refine ⟨?_, hphase, hsub, hcount⟩
    rw [stepDot_of_plainDot hplain, afterTransfer_mixDot_frame, bgFetchDot_frame]
    exact hlast

end Sys2Proof.Machine
end

section
/-! The sprite trigger (R220): the dot on which a fetch starts, with the window start that can fall on it, and that no other
dot leaves a fetch in progress. Settles O47. -/

namespace Sys2Proof.Machine

/-- The window check in the terms of R205. -/
theorem windowCheck_eq (s : State) : windowCheck s =
    if windowStarts s then
      { s with
        winMode := true, winDrawn := true, bgLo := 0, bgHi := 0, bgCount := 0, fphase := .ti, fsub := false
        winTile := 0 }
    else s := by
  split
  next hstart => exact windowCheck_of_starts hstart
  next hnot => exact windowCheck_of_not_starts hnot

/-- The window check does not look at the outputs. -/
theorem windowCheck_clearOut (s : State) : windowCheck (clearOut s) = clearOut (windowCheck s) := by
  rw [windowCheck, windowCheck, apply_ite clearOut]
  rfl

/-- An entry whose left column is off the screen is not reached while a dot runs (R220). -/
theorem Inv.not_spriteTriggers_of_right {s : State} (h : Inv s) (hmode : s.mode = .pixelTransfer) {e : Sprite}
    (he : e ∈ s.queue[s.head]?) (hx : 168 ≤ e.x.toNat) : ¬ spriteTriggers s := by
  obtain ⟨-, hcursor, -⟩ := h.transfer_dots hmode
  rintro ⟨-, f, hf, hreached⟩
  obtain rfl := Option.mem_unique he hf
  omega

/-- The trigger's dot is the window check and the first dot of S_ADDR; the fetch stalls the mixer, so no pixel ends the
line's PIXEL_TRANSFER (R220, R221). -/
theorem stepDot_of_triggers {s : State} (hinv : Inv s) (h : transferring s) (hidle : s.sactive = false)
    (htrigger : spriteTriggers s) : stepDot (clearOut s) =
      { windowCheck s with
        dot := s.dot + 1, out := {}, sactive := true, savedPhase := (windowCheck s).fphase, sphase := .addr
        ssub := true } := by
  have hchecked : spriteTriggers (windowCheck (clearOut s)) := (spriteTriggers_windowCheck_iff (clearOut s)).mpr htrigger
  rw [stepDot_of_transferring h, transferDot_of_triggers (s := clearOut s) hidle hchecked, windowCheck_clearOut,
    hinv.afterTransfer_of_cursor_kept h.2, ← windowCheck_dot s]
  · rfl
  · exact windowCheck_cursor s
  · exact congrArg Nat.succ (windowCheck_dot s)

/-- Without a trigger the dot is the background fetcher's and the mixer's, and neither starts a sprite fetch (R154). -/
theorem stepDot_idle_of_not_triggers {s : State} (h : transferring s) (hidle : s.sactive = false)
    (hnot : ¬ spriteTriggers s) : (stepDot (clearOut s)).sactive = false := by
  have hchecked : ¬ spriteTriggers (windowCheck (clearOut s)) := mt (spriteTriggers_windowCheck_iff (clearOut s)).mp hnot
  rw [stepDot_of_transferring h, transferDot_of_not_triggers (s := clearOut s) hidle hchecked, afterTransfer_mixDot_frame,
    bgFetchDot_sactive, windowCheck_sactive, clearOut_sactive, hidle]

/-- Settles O47: the dot with the trigger is `stepDot_of_triggers`; without one it stays idle. -/
theorem spriteTriggerIsTheEarliestReachedEntry : Obligations.SpriteTriggerIsTheEarliestReachedEntry := by
  intro s hinv h hidle
  have hiff : (stepDot (clearOut s)).sactive = true ↔ spriteTriggers s := by
    by_cases htrigger : spriteTriggers s
    · exact iff_of_true (by rw [stepDot_of_triggers hinv h hidle htrigger]) htrigger
    · exact iff_of_false (Bool.eq_false_iff.mp (stepDot_idle_of_not_triggers h hidle htrigger)) htrigger
  refine ⟨_, exec_step s, hiff, fun hactive => ?_, fun e he hx => ?_⟩
  · rw [stepDot_of_triggers hinv h hidle (hiff.mp hactive), windowCheck_eq]
  · exact stepDot_idle_of_not_triggers h hidle (hinv.not_spriteTriggers_of_right h.2 he hx)

end Sys2Proof.Machine
end

section
/-! The shade of a pixel (R241 to R244): the candidate slot as the position of the queue that holds it, and the palette bits
its index or the background's selects. Settles O51. -/

namespace Sys2Proof.Machine

/-- R244: bits `2i+1..2i` of a byte, as the quotient by `4 ^ i`. -/
theorem toNat_paletteShade (pal : Byte) (i : Shade) : (paletteShade pal i).toNat = pal.toNat / 4 ^ i.toNat % 4 := by
  rw [paletteShade, BitVec.extractLsb'_toNat, Nat.shiftRight_eq_div_pow, Nat.pow_mul]

/-- R202, R241: the high plane counts 2. -/
theorem toNat_topIndex (hi lo : Byte) :
    (topIndex hi lo).toNat = 2 * (hi.getLsbD 7).toNat + (lo.getLsbD 7).toNat := by
  rw [topIndex]
  cases hi.getLsbD 7 <;> cases lo.getLsbD 7 <;> rfl

/-- R241, with the index 0 of BG_EN 0. -/
theorem toNat_bgIndex (s : State) : (bgIndex s).toNat =
    if s.lcdc.getLsbD 0 then 2 * (s.bgHi.getLsbD 7).toNat + (s.bgLo.getLsbD 7).toNat else 0 := by
  rw [bgIndex, apply_ite BitVec.toNat, toNat_topIndex]
  rfl

/-- R242: active, with an index other than 0. -/
theorem slotOpaque_iff (z : Slot) :
    slotOpaque z = true ↔ 0 < z.count ∧ 2 * (z.hi.getLsbD 7).toNat + (z.lo.getLsbD 7).toNat ≠ 0 := by
  rw [slotOpaque, Bool.and_eq_true, decide_eq_true_iff, bne_iff_ne, ← BitVec.toNat_ne_iff_ne, toNat_topIndex]
  rfl

theorem slotOpaque_eq_false_iff (z : Slot) :
    slotOpaque z = false ↔ z.count = 0 ∨ 2 * (z.hi.getLsbD 7).toNat + (z.lo.getLsbD 7).toNat = 0 := by
  rw [← Bool.not_eq_true, slotOpaque_iff, not_and_or, not_lt, Nat.le_zero, not_not]

/-- The first of the first `n` entries with a property, by its position in the whole list. -/
theorem find?_take_eq_some_iff {α : Type} {p : α → Bool} {xs : List α} {n : Nat} {a : α} :
    (xs.take n).find? p = some a ↔
      ∃ k < n, xs[k]? = some a ∧ p a = true ∧ ∀ j < k, ∀ b ∈ xs[j]?, p b = false := by
  rw [List.find?_eq_some_iff_getElem]
  constructor
  · rintro ⟨hpa, k, hk, rfl, hbefore⟩
    have hlt : k < n ∧ k < xs.length := by simpa using hk
    refine ⟨k, hlt.1, by simp [hlt.2], hpa, fun j hj b hb => ?_⟩
    obtain ⟨hjlen, rfl⟩ := List.getElem?_eq_some_iff.mp hb
    simpa using hbefore j hj
  · rintro ⟨k, hkn, hget, hpa, hbefore⟩
    obtain ⟨hklen, rfl⟩ := List.getElem?_eq_some_iff.mp hget
    refine ⟨hpa, k, by simp [hkn, hklen], by simp, fun j hj => ?_⟩
    simpa using hbefore j hj _ (List.getElem?_eq_getElem (hj.trans hklen))

/-- The candidate the mixer finds is the slot `isCandidate` describes (R242). -/
theorem spriteCandidate_eq_some_iff (s : State) (z : Slot) :
    spriteCandidate s = some z ↔ ∃ k, isCandidate s k z := by
  rw [spriteCandidate, Option.ite_none_right_eq_some, find?_take_eq_some_iff, ← exists_and_left]
  simp only [slotOpaque_iff, slotOpaque_eq_false_iff, and_assoc]
  rfl

theorem spriteCandidate_eq_none_iff (s : State) : spriteCandidate s = none ↔ ∀ k z, ¬ isCandidate s k z := by
  rw [Option.eq_none_iff_forall_ne_some, forall_comm]
  exact forall_congr' fun z => by rw [ne_eq, spriteCandidate_eq_some_iff, not_exists]

theorem mixShade_of_candidate {s : State} {z : Slot} (h : spriteCandidate s = some z) : mixShade s =
    if spriteWins z (bgIndex s) then paletteShade (spritePalette s z) (topIndex z.hi z.lo)
    else paletteShade s.bgp (bgIndex s) := by
  rw [mixShade, h]

theorem mixShade_of_no_candidate {s : State} (h : spriteCandidate s = none) :
    mixShade s = paletteShade s.bgp (bgIndex s) := by
  rw [mixShade, h]

/-- R243: the candidate loses exactly when it asks to be behind a background that shows. -/
theorem spriteWins_eq_false_iff (z : Slot) (b : Shade) :
    spriteWins z b = false ↔ z.attr.getLsbD 7 = true ∧ b.toNat ≠ 0 := by
  rw [spriteWins, Bool.not_eq_false', Bool.and_eq_true, bne_iff_ne, ← BitVec.toNat_ne_iff_ne]
  rfl

/-- R244: the shade of a winning sprite, from OBP1 when its PAL bit is 1 and from OBP0 otherwise. -/
theorem toNat_spriteShade (s : State) (z : Slot) : (paletteShade (spritePalette s z) (topIndex z.hi z.lo)).toNat =
    (if z.attr.getLsbD 4 then s.obp1 else s.obp0).toNat /
      4 ^ (2 * (z.hi.getLsbD 7).toNat + (z.lo.getLsbD 7).toNat) % 4 := by
  rw [toNat_paletteShade, toNat_topIndex]
  rfl

/-- Settles O51: the mixer's candidate is the one of R242, and it loses only by R243. -/
theorem mixerArbitratesSpriteAndBackground : Obligations.MixerArbitratesSpriteAndBackground := by
  intro s shade b
  have hbg : (paletteShade s.bgp (bgIndex s)).toNat = shade s.bgp b := by rw [toNat_paletteShade, toNat_bgIndex]
  refine ⟨fun k z hk => ?_, fun hnone => ?_⟩
  · rw [mixShade_of_candidate ((spriteCandidate_eq_some_iff s z).mpr ⟨k, hk⟩)]
    have hloses : spriteWins z (bgIndex s) = false ↔ z.attr.getLsbD 7 = true ∧ b ≠ 0 := by
      rw [spriteWins_eq_false_iff, toNat_bgIndex]
    split
    next hwins => rw [if_neg (mt hloses.mpr (by simp [hwins])), toNat_spriteShade]
    next hlost => rw [if_pos (hloses.mp (Bool.eq_false_of_not_eq_true hlost)), hbg]
  · rw [mixShade_of_no_candidate ((spriteCandidate_eq_none_iff s).mpr hnone), hbg]

end Sys2Proof.Machine
end

section
/-! The decoder and the encoder (R80 to R85), and the step that runs what the decoder reads (R72, R73). Settles O1, O2, O3,
O4, O5 and O6. -/

namespace Sys2Proof.Machine

/-! ## The encoder's words -/

/-- The decoder finds the two fields where the encoder put them. -/
theorem decode_encode (i : Instr) : decode (encode i) = .ok i := by
  rw [decode, encode, kind_mk, addr_mk]
  cases i <;> rfl

/-- Settles O1, for all 28 instructions at once. -/
theorem decodeGivesBackEveryEncodedRequest : Obligations.DecodeGivesBackEveryEncodedRequest := decode_encode

/-! ## What the decoder accepts -/

theorem fields_of_readInstr_ok {sel : Nat} {i : Instr} (h : readInstr sel = .ok i) :
    kindField i = 1 ∧ (addrField i).toNat = sel := by
  unfold readInstr at h
  split at h <;> cases h <;> exact ⟨rfl, rfl⟩

theorem fields_of_writeInstr_ok {sel : Nat} {d : Byte} {i : Instr} (h : writeInstr sel d = .ok i) :
    kindField i = 2 ∧ (addrField i).toNat = sel := by
  unfold writeInstr at h
  split at h <;> cases h <;> exact ⟨rfl, rfl⟩

/-- The three bits of the kind are the eight arms of the decoder (R80). -/
theorem kind_cases (r : Request) :
    r.kind = 0 ∨ r.kind = 1 ∨ r.kind = 2 ∨ r.kind = 3 ∨ r.kind = 4 ∨ r.kind = 5 ∨ r.kind = 6 ∨ r.kind = 7 := by
  bv_omega

theorem decode_of_kind_zero {r : Request} (h : r.kind = 0) :
    decode r = if r.addr = 0 then .ok .step else .error .stepAddrNotZero := by
  rw [decode, h]
  rfl

theorem decode_of_kind_one {r : Request} (h : r.kind = 1) : decode r = readInstr r.addr.toNat := by
  rw [decode, h]
  rfl

theorem decode_of_kind_two {r : Request} (h : r.kind = 2) : decode r = writeInstr r.addr.toNat r.data := by
  rw [decode, h]
  rfl

/-- The words of the memory ports are legal for every `addr`, and decode to an instruction of their own kind (R83, R84). -/
theorem decode_of_port {r : Request} (h0 : r.kind ≠ 0) (h1 : r.kind ≠ 1) (h2 : r.kind ≠ 2) :
    ∃ i, decode r = .ok i ∧ kindField i = r.kind ∧ addrField i = r.addr := by
  unfold decode
  obtain h | h | h | h | h | h | h | h := kind_cases r
  · exact absurd h h0
  · exact absurd h h1
  · exact absurd h h2
  all_goals
    rw [h]
    exact ⟨_, rfl, rfl, rfl⟩

/-- An accepted word has the fields the encoder gives the instruction (R80, R81). -/
theorem fields_of_decode_ok {r : Request} {i : Instr} (h : decode r = .ok i) :
    kindField i = r.kind ∧ addrField i = r.addr := by
  by_cases h0 : r.kind = 0
  · rw [decode_of_kind_zero h0] at h
    split at h
    next haddr =>
      cases h
      exact ⟨h0.symm, haddr.symm⟩
    next => cases h
  by_cases h1 : r.kind = 1
  · rw [decode_of_kind_one h1] at h
    obtain ⟨hkind, haddr⟩ := fields_of_readInstr_ok h
    exact ⟨hkind.trans h1.symm, BitVec.eq_of_toNat_eq haddr⟩
  by_cases h2 : r.kind = 2
  · rw [decode_of_kind_two h2] at h
    obtain ⟨hkind, haddr⟩ := fields_of_writeInstr_ok h
    exact ⟨hkind.trans h2.symm, BitVec.eq_of_toNat_eq haddr⟩
  · obtain ⟨j, hj, hfields⟩ := decode_of_port h0 h1 h2
    cases hj.symm.trans h
    exact hfields

/-- A request word is its two fields (R81). -/
theorem kind_append_addr (r : Request) : r.kind ++ r.addr = r.word :=
  BitVec.extractLsb'_append_extractLsb'_eq_extractLsb' (by decide) |>.trans BitVec.extractLsb'_eq_self

theorem encode_word_of_decode_ok {r : Request} {i : Instr} (h : decode r = .ok i) : (encode i).word = r.word := by
  obtain ⟨hkind, haddr⟩ := fields_of_decode_ok h
  rw [← kind_append_addr r, ← hkind, ← haddr]
  rfl

/-- The laws of the encoded rows, for whichever instruction. -/
theorem encodedRow : ∀ i : Instr, Laws.EncodedRow.Statement i
  | .step => Laws.EncodedRow.step
  | .rdLcdc => Laws.EncodedRow.rdLcdc
  | .rdStat => Laws.EncodedRow.rdStat
  | .rdScy => Laws.EncodedRow.rdScy
  | .rdScx => Laws.EncodedRow.rdScx
  | .rdLy => Laws.EncodedRow.rdLy
  | .rdLyc => Laws.EncodedRow.rdLyc
  | .rdBgp => Laws.EncodedRow.rdBgp
  | .rdObp0 => Laws.EncodedRow.rdObp0
  | .rdObp1 => Laws.EncodedRow.rdObp1
  | .rdWy => Laws.EncodedRow.rdWy
  | .rdWx => Laws.EncodedRow.rdWx
  | .wrLcdc d => Laws.EncodedRow.wrLcdc d
  | .wrStat d => Laws.EncodedRow.wrStat d
  | .wrScy d => Laws.EncodedRow.wrScy d
  | .wrScx d => Laws.EncodedRow.wrScx d
  | .wrLy d => Laws.EncodedRow.wrLy d
  | .wrLyc d => Laws.EncodedRow.wrLyc d
  | .wrBgp d => Laws.EncodedRow.wrBgp d
  | .wrObp0 d => Laws.EncodedRow.wrObp0 d
  | .wrObp1 d => Laws.EncodedRow.wrObp1 d
  | .wrWy d => Laws.EncodedRow.wrWy d
  | .wrWx d => Laws.EncodedRow.wrWx d
  | .vrd a => Laws.EncodedRow.vrd a
  | .vwr a d => Laws.EncodedRow.vwr a d
  | .ord a => Laws.EncodedRow.ord a
  | .owr a d => Laws.EncodedRow.owr a d
  | .dma a d => Laws.EncodedRow.dma a d

/-- Settles O2: an accepted word is the one the encoder writes, whose rows `encodedRow` says. -/
theorem decodedWordLiesInItsTableRowAlone : Obligations.DecodedWordLiesInItsTableRowAlone := by
  intro r i h
  rw [← encode_word_of_decode_ok h]
  exact encodedRow i

/-- Settles O3: the words are the encodings of their instructions, each given back by the decoder. -/
theorem writtenOutWordsDecode : Obligations.WrittenOutWordsDecode :=
  ⟨decode_encode .step, decode_encode .rdStat, decode_encode .rdWx, decode_encode (.wrLyc 0x42), decode_encode (.wrBgp 0xE4),
    decode_encode (.vrd 0x1805), decode_encode (.vwr 0x2005 0x11), decode_encode (.ord 0x009F),
    decode_encode (.owr 0xFFFF 0x12), decode_encode (.dma 0x009F 0x00)⟩

/-! ## What the decoder rejects -/

/-- A select that names no register (R85). -/
abbrev reservedSelect (sel : Offset) : Prop := sel = 0x6 ∨ 0xC ≤ sel.toNat

theorem instr_of_reservedSelect {sel : Offset} (d : Byte) (h : reservedSelect sel) :
    readInstr sel.toNat = .error .noSuchRegister ∧ writeInstr sel.toNat d = .error .noSuchRegister := by
  obtain rfl | hhigh := h
  · exact ⟨rfl, rfl⟩
  · obtain ⟨n, hn⟩ := Nat.exists_eq_add_of_le' hhigh
    rw [hn]
    exact ⟨rfl, rfl⟩

theorem instr_of_not_reservedSelect {sel : Offset} (d : Byte) (h : ¬ reservedSelect sel) :
    (∃ i, readInstr sel.toNat = .ok i) ∧ ∃ i, writeInstr sel.toNat d = .ok i := by
  have hlow : sel.toNat < 0xC := Nat.lt_of_not_le fun hhigh => h (.inr hhigh)
  have hsix : sel.toNat ≠ 6 := fun h6 => h (.inl (BitVec.eq_of_toNat_eq h6))
  generalize sel.toNat = n at hlow hsix
  obtain hbelow | habove : n < 6 ∨ 7 ≤ n := by omega
  · interval_cases n <;> exact ⟨⟨_, rfl⟩, _, rfl⟩
  · interval_cases n <;> exact ⟨⟨_, rfl⟩, _, rfl⟩

/-- The reserved words of R85. -/
abbrev Request.reserved (r : Request) : Prop :=
  (r.kind = 0 ∧ r.addr ≠ 0) ∨ ((r.kind = 1 ∨ r.kind = 2) ∧ reservedSelect r.addr)

theorem decode_of_reserved {r : Request} (h : Request.reserved r) : ∃ why, decode r = .error why := by
  obtain ⟨h0, haddr⟩ | ⟨h1 | h2, hsel⟩ := h
  · exact ⟨_, (decode_of_kind_zero h0).trans (if_neg haddr)⟩
  · exact ⟨_, (decode_of_kind_one h1).trans (instr_of_reservedSelect r.data hsel).1⟩
  · exact ⟨_, (decode_of_kind_two h2).trans (instr_of_reservedSelect r.data hsel).2⟩

theorem decode_of_not_reserved {r : Request} (h : ¬ Request.reserved r) : ∃ i, decode r = .ok i := by
  by_cases h0 : r.kind = 0
  · have haddr : r.addr = 0 := Classical.not_not.mp fun hne => h (.inl ⟨h0, hne⟩)
    exact ⟨_, (decode_of_kind_zero h0).trans (if_pos haddr)⟩
  by_cases h1 : r.kind = 1
  · rw [decode_of_kind_one h1]
    exact (instr_of_not_reservedSelect r.data fun hsel => h (.inr ⟨.inl h1, hsel⟩)).1
  by_cases h2 : r.kind = 2
  · rw [decode_of_kind_two h2]
    exact (instr_of_not_reservedSelect r.data fun hsel => h (.inr ⟨.inr h2, hsel⟩)).2
  · obtain ⟨i, hi, -⟩ := decode_of_port h0 h1 h2
    exact ⟨i, hi⟩

/-! ## The step -/

theorem step_of_empty {s : State} (hmark : s.faulted = false) (hreq : s.requests = []) : step s = .next (clearOut s) := by
  rw [step, hmark, hreq]
  rfl

theorem step_of_decode_ok {s : State} {r : Request} {rest : List Request} {i : Instr} (hmark : s.faulted = false)
    (hreq : s.requests = r :: rest) (hdecode : decode r = .ok i) : step s = exec i (takeRequest rest s) := by
  rw [step, hmark, hreq, if_neg Bool.false_ne_true]
  dsimp only
  rw [hdecode]

theorem step_of_decode_error {s : State} {r : Request} {rest : List Request} {why : Reject} (hmark : s.faulted = false)
    (hreq : s.requests = r :: rest) (hdecode : decode r = .error why) :
    step s = .next (refuseRequest (takeRequest rest s)) := by
  rw [step, hmark, hreq, if_neg Bool.false_ne_true]
  dsimp only
  rw [hdecode]

theorem step_of_faulted {s : State} (hmark : s.faulted = true) : step s = .fault .markedUnreachable := if_pos hmark

/-- Settles O5. -/
theorem stepRunsTheDecodedRequest : Obligations.StepRunsTheDecodedRequest := fun _ _ _ _ => step_of_decode_ok

/-- Settles O4: the decoder rejects the reserved words and no others. -/
theorem reservedWordsAreRefusedAndOthersRun : Obligations.ReservedWordsAreRefusedAndOthersRun := by
  intro s r rest hmark hreq reserved
  refine ⟨fun h => ?_, fun h => ?_⟩
  · obtain ⟨why, hwhy⟩ := decode_of_reserved h
    exact step_of_decode_error hmark hreq hwhy
  · obtain ⟨i, hi⟩ := decode_of_not_reserved h
    exact ⟨i, hi, step_of_decode_ok hmark hreq hi⟩

theorem decode_of_decodeTableWord {nbits w : Nat} {i : Instr} (h : decodeTableWord nbits w = some i) :
    decode (requestOfBits nbits w) = .ok i := by
  unfold decodeTableWord at h
  split at h
  next j hj =>
    cases h
    exact hj
  next => cases h

/-- Settles O6: the word stands first, and taking it leaves the state it was placed in. -/
theorem placedTableWordRunsNext : Obligations.PlacedTableWordRunsNext := fun s nbits w _ hmark hword =>
  step_of_decode_ok (s := s.withFetchWord nbits w) hmark rfl (decode_of_decodeTableWord hword)

end Sys2Proof.Machine
end

section
/-! The invariant of the machine under its step (R32 to R43, R261): it holds at power-on, every request keeps it, and no request
stops the machine. Settles O7, O8, O9 and O10. -/

namespace Sys2Proof.Machine

/-- Settles O7: the STAT read is `statByte`, with the flag set and the mode VBLANK. -/
theorem powerOnValues : Obligations.PowerOnValues :=
  ⟨rfl, rfl, rfl, rfl, rfl, rfl, rfl, rfl, rfl, rfl, rfl, rfl, rfl, rfl, rfl, rfl, rfl, rfl,
    congrArg Host.Outcome.next (answer_eq (statByte State.reset) State.reset)⟩

theorem Inv.reset : Inv State.reset where
  unfaulted := rfl
  dot_lt := Nat.succ_pos _
  ly_le := Nat.zero_le _
  coin_eq := rfl
  off_rest := nofun
  visible_line := fun hm => absurd rfl hm
  oam_dots := nofun
  transfer_dots := nofun
  queue_length := Nat.zero_le _
  queue_sorted := .nil
  head_le := Nat.le_refl _
  bg_count_le := Nat.zero_le _
  discard_le := Nat.zero_le _
  cursor_le := Nat.zero_le _
  sprite_fetch := nofun
  slots_length := List.length_replicate
  slot_count_le := emptySlots_count_le
  vram_wf := Memory.nil_wf _
  oam_wf := Memory.nil_wf _
  fb_wf := Memory.nil_wf _

/-- Settles O8. -/
theorem powerOnMeetsTheInvariant : Obligations.PowerOnMeetsTheInvariant := Inv.reset

/-- What a step can do (R72, R73, R85): idle, run the oldest request, or refuse it. -/
theorem step_cases {s : State} (hmark : s.faulted = false) :
    (s.requests = [] ∧ step s = .next (clearOut s)) ∨
      (∃ rest i, step s = exec i (takeRequest rest s)) ∨
      ∃ rest, step s = .next (refuseRequest (takeRequest rest s)) := by
  cases hreq : s.requests with
  | nil => exact .inl ⟨rfl, step_of_empty hmark hreq⟩
  | cons r rest =>
    cases hdecode : decode r with
    | ok i => exact .inr (.inl ⟨rest, i, step_of_decode_ok hmark hreq hdecode⟩)
    | error why => exact .inr (.inr ⟨rest, step_of_decode_error hmark hreq hdecode⟩)

theorem Inv.after_takeRequest {s : State} (h : Inv s) (rest : List Request) : Inv (takeRequest rest s) := { h with }

theorem Inv.after_refuseRequest {s : State} (h : Inv s) : Inv (refuseRequest s) := { h with }

/-- Settles O9, by what a step can do: `Inv.after_exec` says it of every request that runs. -/
theorem everyStepKeepsTheInvariant : Obligations.EveryStepKeepsTheInvariant := by
  intro s t hinv hstep
  obtain ⟨-, heq⟩ | ⟨rest, i, heq⟩ | ⟨rest, heq⟩ := step_cases hinv.unfaulted
  · cases heq.symm.trans hstep
    exact hinv.after_clearOut
  · exact (hinv.after_takeRequest rest).after_exec (heq.symm.trans hstep)
  · cases heq.symm.trans hstep
    exact (hinv.after_takeRequest rest).after_refuseRequest

/-- Settles O10, by what a step can do: every request that runs answers a next state. -/
theorem noStepStopsTheMachine : Obligations.NoStepStopsTheMachine := by
  intro s hinv
  obtain ⟨-, heq⟩ | ⟨rest, i, heq⟩ | ⟨rest, heq⟩ := step_cases hinv.unfaulted
  · exact ⟨_, heq⟩
  · rw [heq]
    exact exec_answers i _
  · exact ⟨_, heq⟩

end Sys2Proof.Machine
end

section
/-! The writes of the registers (R123, R125 to R133), what they read back, and the dots that only count (R156). Settles O14,
O20, O21 and O36. -/

namespace Sys2Proof.Machine

/-- Settles O14: each is the write of its field on a state that emits nothing. -/
theorem plainRegisterWritesStoreTheByte : Obligations.PlainRegisterWritesStoreTheByte :=
  fun _ _ => ⟨rfl, rfl, rfl, rfl, rfl, rfl, rfl⟩

/-- Settles O20. -/
theorem lcdcWriteWithoutPowerChangeStoresTheByte : Obligations.LcdcWriteWithoutPowerChangeStoresTheByte := by
  intro s d hsame
  rw [exec_wrLcdc, switchDisplay_of_same (s := { s with lcdc := d, out := {} }) (wasOn := lcdOn s) hsame]

/-- Two bytes with the same bits 6..3 are the same under their mask. -/
theorem and_statMask_congr {b d : Byte} (h : ∀ k < 4, b.getLsbD (3 + k) = d.getLsbD (3 + k)) : b &&& 0x78 = d &&& 0x78 := by
  apply BitVec.eq_of_getLsbD_eq
  intro k hk
  rw [BitVec.getLsbD_and, BitVec.getLsbD_and]
  by_cases hin : 3 ≤ k ∧ k < 7
  · obtain ⟨j, rfl⟩ := Nat.exists_eq_add_of_le hin.1
    rw [h j (by omega)]
  · have hmask : (0x78 : Byte).getLsbD k = false := by
      have hout : ∀ k < 8, ¬ (3 ≤ k ∧ k < 7) → (0x78 : Byte).getLsbD k = false := by decide
      exact hout k hk hin
    rw [hmask, Bool.and_false, Bool.and_false]

/-- STAT reads the enables the last write stored (R113, R124). -/
theorem statByte_and_statMask {t : State} {d : Byte} (h : t.statEn = statEnables d) :
    statByte t &&& 0x78 = d &&& 0x78 :=
  and_statMask_congr fun k hk => by rw [statByte_enables t hk, h, statEnables_getLsbD d k hk]

/-- Settles O21: each read answers with the field the write set. -/
theorem registerReadsBackWhatWasWritten : Obligations.RegisterReadsBackWhatWasWritten := by
  intro s d
  have lcdc : (switchDisplay (lcdOn s) { s with lcdc := d, out := {} }).lcdc = d := switchDisplay_lcdc _ _
  refine ⟨⟨_, exec_wrLcdc d s, ?_⟩, ⟨_, rfl, rfl⟩, ⟨_, rfl, rfl⟩, ⟨_, rfl, rfl⟩, ⟨_, rfl, rfl⟩, ⟨_, rfl, rfl⟩, ⟨_, rfl, rfl⟩,
    ⟨_, rfl, rfl⟩, ⟨_, rfl, rfl⟩, ⟨_, _, rfl, rfl, statByte_and_statMask rfl⟩, ⟨_, rfl, rfl⟩⟩
  rw [exec, execRdLcdc, answer_eq, lcdc]

/-- A dot of HBLANK or VBLANK that does not end its line only counts (R156). -/
theorem stepDot_of_blank_inner {s : State} (hon : lcdOn s = true) (hmode : s.mode = .hblank ∨ s.mode = .vblank)
    (hinner : ¬ endsLine s) : stepDot (clearOut s) = countDot (clearOut s) := by
  rw [stepDot_of_blank (s := clearOut s) hon hmode,
    blankDot_of_inner (s := clearOut s) fun hlast => hinner ⟨hon, hlast, hmode⟩]

/-- Settles O36. -/
theorem blankDotOnlyCounts : Obligations.BlankDotOnlyCounts := by
  intro s hon hmode hinner
  rw [exec_step, stepDot_of_blank_inner hon hmode fun ⟨_, hlast, _⟩ => hinner (congrArg Nat.succ hlast)]
  rfl

end Sys2Proof.Machine
end

section
/-! What a request can change (R71, R160, R206, R245, R262, R263): the registers, the memories, the frame buffer and the outputs,
each by the few requests that reach it. Settles O23, O28, O29, O30, O32, O33 and O34. -/

namespace Sys2Proof.Machine

/-! ## The memories and the registers -/

/-- A VRAM_WRITE word is legal for every `addr`, and carries the data byte (R80, R85). -/
theorem decode_vwrWord (a : Offset) (d : Byte) : decode ⟨(4 : BitVec 3) ++ a, d⟩ = .ok (.vwr a d) := by
  rw [decode, kind_mk, addr_mk]
  rfl

theorem exec_vwr_of_closed {s : State} (hclosed : ¬ vramOpen s = true) (a : Offset) (d : Byte) :
    exec (.vwr a d) s = .next (clearOut s) := by
  rw [exec, execVwr, if_neg hclosed]

/-- The whole next state of a bus write of VRAM (R141): the storage, if the gate is open, and nothing emitted. -/
theorem exec_vwr (a : Offset) (d : Byte) (s : State) :
    exec (.vwr a d) s = .next
      { s with vram := if vramOpen s then Memory.write s.vram (a.toNat % 8192) d else s.vram, out := {} } := by
  by_cases hopen : vramOpen s = true
  · rw [exec_vwr_of_open hopen, if_pos hopen]
    rfl
  · rw [exec_vwr_of_closed hopen, if_neg hopen]
    rfl

/-- Settles O23, by the gate of the whole next state. -/
theorem vramWriteIsDroppedInTransfer : Obligations.VramWriteIsDroppedInTransfer := by
  rintro s a d ⟨hsorted, -⟩
  refine ⟨decode_vwrWord a d, _, exec_vwr a d s, rfl, fun hmode => ?_, fun hmode b => ?_⟩
  · exact if_neg fun hopen => (vramOpen_iff s).mp hopen hmode
  · rw [if_pos ((vramOpen_iff s).mpr hmode)]
    exact Memory.read_write s.vram _ b d hsorted

/-- What no dot changes: the registers software writes, the memories, the `refused` mark and the pending requests. -/
theorem stepDot_frame (s : State) :
    stepDot s = { stepDot s with
      lcdc := s.lcdc, statEn := s.statEn, scy := s.scy, scx := s.scx, lyc := s.lyc, bgp := s.bgp, obp0 := s.obp0
      obp1 := s.obp1, wy := s.wy, wx := s.wx, vram := s.vram, oam := s.oam, refused := s.refused
      requests := s.requests } := by
  unfold stepDot oamDot blankDot
  split
  · split
    · split <;> rfl
    · rw [afterTransfer_frame, transferDot_frame]
      rfl
    · split
      · rw [endOfLine_frame]
        rfl
      · rfl
    · split
      · rw [endOfLine_frame]
        rfl
      · rfl
  · rfl

/-- Settles O28, by the requests that name a memory; no dot changes either. -/
theorem memoriesAreWrittenThroughTheirPortsAlone : Obligations.MemoriesAreWrittenThroughTheirPortsAlone := by
  intro i s t h
  cases i with
  | step =>
    cases h
    rw [stepDot_frame]
    exact ⟨absurd rfl, absurd rfl⟩
  | wrLcdc d =>
    cases h
    exact ⟨absurd (switchDisplay_vram _ _), absurd (switchDisplay_oam _ _)⟩
  | vwr a d =>
    cases (exec_vwr a d s).symm.trans h
    refine ⟨fun hne => ⟨a, d, rfl, fun hmode => hne ?_⟩, absurd rfl⟩
    exact if_neg fun hopen => (vramOpen_iff s).mp hopen hmode
  | owr a d =>
    cases (exec_owr a d s).symm.trans h
    refine ⟨absurd rfl, fun hne => ⟨a, d, .inl ⟨rfl, ?_⟩⟩⟩
    have hopen : oamOpen s = true := by
      by_contra hclosed
      exact hne (if_neg hclosed)
    have hmode := (oamOpen_iff s).mp hopen
    cases hm : s.mode with
    | hblank => exact .inl rfl
    | vblank => exact .inr rfl
    | oamSearch => exact absurd (.inl hm) hmode
    | pixelTransfer => exact absurd (.inr hm) hmode
  | dma a d =>
    cases h
    exact ⟨absurd rfl, fun _ => ⟨a, d, .inr rfl⟩⟩
  | _ =>
    cases h
    exact ⟨absurd rfl, absurd rfl⟩

/-- Settles O30: a dot, the display power and the memory ports leave all ten, and each write sets its own to its byte. -/
theorem registersChangeOnlyByTheirOwnWrite : Obligations.RegistersChangeOnlyByTheirOwnWrite := by
  intro i s t h
  cases i with
  | step =>
    cases h
    rw [stepDot_frame]
    exact ⟨absurd rfl, absurd rfl, absurd rfl, absurd rfl, absurd rfl, absurd rfl, absurd rfl, absurd rfl, absurd rfl,
      absurd rfl⟩
  | wrLcdc d =>
    cases h
    rw [switchDisplay_frame]
    exact ⟨fun _ => rfl, absurd rfl, absurd rfl, absurd rfl, absurd rfl, absurd rfl, absurd rfl, absurd rfl, absurd rfl,
      absurd rfl⟩
  | vwr a d =>
    cases (exec_vwr a d s).symm.trans h
    simp
  | owr a d =>
    cases (exec_owr a d s).symm.trans h
    simp
  | _ =>
    cases h
    simp [statEnables]

/-! ## The outputs -/

theorem not_endsLine_of_transfer {s : State} (hmode : s.mode = .pixelTransfer) : ¬ endsLine s := by
  rintro ⟨-, -, hm | hm⟩ <;> cases hmode.symm.trans hm

/-- A PIXEL_TRANSFER dot, its end in one equation (R155, R158). -/
theorem stepDot_eq_of_transferring {s : State} (h : transferring s) : stepDot (clearOut s) =
    { transferDot (clearOut s) with
      dot := s.dot + 1
      mode := if (transferDot (clearOut s)).cursor = 160 then .hblank else .pixelTransfer
      faulted := (transferDot (clearOut s)).faulted || ((transferDot (clearOut s)).cursor != 160 && s.dot + 1 == 456)
      out := if (transferDot (clearOut s)).cursor = 160 then { stat := s.statEn.getLsbD 0 } else {} } := by
  have hmode : (transferDot (clearOut s)).mode = .pixelTransfer := (transferDot_mode (clearOut s)).trans h.2
  have hout : (transferDot (clearOut s)).out = {} := transferDot_out (clearOut s)
  have hdot : (transferDot (clearOut s)).dot = s.dot := transferDot_dot (clearOut s)
  have henables : (transferDot (clearOut s)).statEn = s.statEn := transferDot_statEn (clearOut s)
  rw [stepDot_of_transferring h, ← hdot, ← henables]
  exact afterTransfer_of_silent (s := countDot (transferDot (clearOut s))) hmode hout

/-- The only output of a dot that does not end its line is the mode-0 request of HBLANK entry (R155, R263). -/
theorem stepDot_out_of_inner {s : State} (hinner : ¬ endsLine s) :
    (stepDot (clearOut s)).out = {} ∨
      (s.mode = .pixelTransfer ∧ (stepDot (clearOut s)).mode = .hblank ∧
        (stepDot (clearOut s)).out = { stat := s.statEn.getLsbD 0 }) := by
  cases hpower : lcdOn s with
  | false =>
    rw [stepDot_of_off (s := clearOut s) hpower]
    exact .inl rfl
  | true =>
    have hblank (hm : s.mode = .hblank ∨ s.mode = .vblank) : (stepDot (clearOut s)).out = {} := by
      rw [stepDot_of_blank_inner hpower hm hinner]
      rfl
    cases hmode : s.mode with
    | hblank => exact .inl (hblank (.inl hmode))
    | vblank => exact .inl (hblank (.inr hmode))
    | oamSearch =>
      rw [stepDot_of_search (s := clearOut s) hpower hmode, oamDot]
      split <;> exact .inl rfl
    | pixelTransfer =>
      rw [stepDot_eq_of_transferring ⟨hpower, hmode⟩]
      split
      · exact .inr ⟨rfl, rfl, rfl⟩
      · exact .inl rfl

theorem nextLy_eq_144_iff {ly : Byte} : nextLy ly = 144 ↔ ly = 143 := by
  unfold nextLy
  split
  next hwrap => rw [hwrap]; decide
  next => exact ⟨fun h => by bv_omega, fun h => by rw [h]; rfl⟩

theorem enterVblank_out (s : State) : (enterVblank s).out =
    { s.out with vblank := true, stat := s.out.stat || s.statEn.getLsbD 1, present := some s.fb } := rfl

theorem enterOam_out (s : State) : (enterOam s).out = { s.out with stat := s.out.stat || s.statEn.getLsbD 2 } := rfl

theorem lineCounted_out (s : State) : (lineCounted s).out =
    { stat := (nextLy s.ly == s.lyc) && !s.coin && s.statEn.getLsbD 3 } := by
  rw [lineCounted_eq]

/-- The frame's outputs of a STEP (R160, R162). -/
theorem stepDot_frameOut (s : State) :
    ((stepDot (clearOut s)).out.vblank = true ↔ endsLine s ∧ s.mode = .hblank ∧ s.ly = 143) ∧
      (stepDot (clearOut s)).out.present = if (stepDot (clearOut s)).out.vblank then some s.fb else none := by
  by_cases hends : endsLine s
  · obtain ⟨hm, hly, hnext⟩ | ⟨hsearch, hnext⟩ | ⟨hm, -, hnext⟩ := stepDot_cases_of_endsLine hends
    · rw [hnext, enterVblank_out]
      exact ⟨iff_of_true rfl ⟨hends, hm, nextLy_eq_144_iff.mp hly⟩, rfl⟩
    · rw [hnext, enterOam_out, lineCounted_out]
      refine ⟨iff_of_false Bool.false_ne_true fun ⟨_, hm, hly⟩ => ?_, rfl⟩
      obtain ⟨-, hne⟩ | ⟨hm', -⟩ := hsearch
      · exact hne (nextLy_eq_144_iff.mpr hly)
      · cases hm.symm.trans hm'
    · rw [hnext, lineCounted_out]
      refine ⟨iff_of_false Bool.false_ne_true fun ⟨_, hm', _⟩ => ?_, rfl⟩
      cases hm.symm.trans hm'
  · obtain hout | ⟨-, -, hout⟩ := stepDot_out_of_inner hends
    all_goals
      rw [hout]
      exact ⟨iff_of_false Bool.false_ne_true fun ⟨h, _⟩ => hends h, rfl⟩

/-- Only a STEP ends a frame. -/
theorem exec_frameOut_of_not_step {i : Instr} {s t : State} (h : exec i s = .next t) (hstep : i ≠ .step) :
    t.out.vblank = false ∧ t.out.present = none := by
  cases i with
  | step => exact absurd rfl hstep
  | wrLcdc d =>
    cases h
    unfold switchDisplay
    split
    · exact ⟨rfl, rfl⟩
    · split <;> exact ⟨rfl, rfl⟩
  | vwr a d =>
    cases (exec_vwr a d s).symm.trans h
    exact ⟨rfl, rfl⟩
  | owr a d =>
    cases (exec_owr a d s).symm.trans h
    exact ⟨rfl, rfl⟩
  | _ =>
    cases h
    exact ⟨rfl, rfl⟩

/-- Settles O32: a STEP by `stepDot_frameOut`, any other request by `exec_frameOut_of_not_step`. -/
theorem vblankAndPresentComeAtTheEndOfLine143 : Obligations.VblankAndPresentComeAtTheEndOfLine143 := by
  intro i s t h
  by_cases hstep : i = .step
  · subst hstep
    cases h
    obtain ⟨hvblank, hpresent⟩ := stepDot_frameOut s
    refine ⟨hvblank.trans ⟨fun ⟨⟨hon, hdot, _⟩, hm, hly⟩ => ⟨rfl, hon, hm, hdot, hly⟩, ?_⟩, hpresent⟩
    exact fun ⟨_, hon, hm, hdot, hly⟩ => ⟨⟨hon, hdot, .inl hm⟩, hm, hly⟩
  · obtain ⟨hvblank, hpresent⟩ := exec_frameOut_of_not_step h hstep
    rw [hvblank, hpresent]
    exact ⟨iff_of_false Bool.false_ne_true fun ⟨hi, _⟩ => hstep hi, rfl⟩

/-- The sources of the end of a line (R263): VBLANK entry, OAM_SEARCH entry, and a rise of the flag. -/
theorem stat_source_of_endsLine {s : State} (hends : endsLine s) (hstat : (stepDot (clearOut s)).out.stat = true) :
    (s.statEn.getLsbD 1 = true ∧ s.mode = .hblank ∧ (stepDot (clearOut s)).mode = .vblank) ∨
      (s.statEn.getLsbD 2 = true ∧ (stepDot (clearOut s)).mode = .oamSearch) ∨
      (s.statEn.getLsbD 3 = true ∧ s.coin = false ∧ (stepDot (clearOut s)).coin = true) := by
  have hrise (h : (lineCounted s).out.stat = true) :
      s.statEn.getLsbD 3 = true ∧ s.coin = false ∧ (lineCounted s).coin = true := by
    rw [lineCounted_out] at h
    obtain ⟨⟨hcoin, hfell⟩, henabled⟩ : ((nextLy s.ly == s.lyc) = true ∧ (!s.coin) = true) ∧ s.statEn.getLsbD 3 = true := by
      simpa only [Bool.and_eq_true] using h
    exact ⟨henabled, (Bool.not_eq_true' _).mp hfell, hcoin⟩
  obtain ⟨hm, -, hnext⟩ | ⟨-, hnext⟩ | ⟨-, -, hnext⟩ := stepDot_cases_of_endsLine hends
  · rw [hnext] at hstat ⊢
    obtain h | h : (lineCounted s).out.stat = true ∨ s.statEn.getLsbD 1 = true := Bool.or_eq_true_iff.mp hstat
    · exact .inr (.inr (hrise h))
    · exact .inl ⟨h, hm, rfl⟩
  · rw [hnext] at hstat ⊢
    obtain h | h : (lineCounted s).out.stat = true ∨ s.statEn.getLsbD 2 = true := Bool.or_eq_true_iff.mp hstat
    · exact .inr (.inr (hrise h))
    · exact .inr (.inl ⟨h, rfl⟩)
  · rw [hnext] at hstat ⊢
    exact .inr (.inr (hrise hstat))

/-- The source of an LCDC write (R167): the display turned on. -/
theorem stat_source_of_wrLcdc {s : State} {d : Byte}
    (hstat : (switchDisplay (lcdOn s) { s with lcdc := d, out := {} }).out.stat = true) :
    s.statEn.getLsbD 2 = true ∧ s.lcdc.getLsbD 7 = false ∧ d.getLsbD 7 = true ∧
      (switchDisplay (lcdOn s) { s with lcdc := d, out := {} }).mode = .oamSearch := by
  by_cases hsame : d.getLsbD 7 = s.lcdc.getLsbD 7
  · rw [switchDisplay_of_same (s := { s with lcdc := d, out := {} }) (wasOn := lcdOn s) hsame] at hstat
    exact absurd hstat Bool.false_ne_true
  cases hd : d.getLsbD 7 with
  | false =>
    have hs : lcdOn s = true := Bool.of_not_eq_false fun hs => hsame (hd.trans hs.symm)
    rw [hs, switchDisplay_of_falls (s := { s with lcdc := d, out := {} }) hd, displayOff, updateCoincidence_silent] at hstat
    exact absurd hstat Bool.false_ne_true
  | true =>
    have hs : lcdOn s = false := Bool.of_not_eq_true fun hs => hsame (hd.trans hs.symm)
    rw [hs, switchDisplay_of_rises (s := { s with lcdc := d, out := {} }) hd] at hstat ⊢
    exact ⟨(Bool.false_or _).symm.trans hstat, hs, rfl, rfl⟩

/-- Settles O33, by the requests that can request STAT: a STEP, and the writes of LCDC and LYC. -/
theorem statRequestsHaveAnEnabledSource : Obligations.StatRequestsHaveAnEnabledSource := by
  intro i s t h hstat
  cases i with
  | step =>
    cases h
    by_cases hends : endsLine s
    · obtain ⟨hon, hdot, -⟩ := id hends
      obtain ⟨hen, hm, ht⟩ | ⟨hen, ht⟩ | hrise := stat_source_of_endsLine hends hstat
      · exact .inr (.inl ⟨hen, rfl, hm, ht⟩)
      · exact .inr (.inr (.inl ⟨hen, ht, .inl ⟨rfl, hdot⟩⟩))
      · obtain ⟨hen, hcoin, ht⟩ := hrise
        exact .inr (.inr (.inr ⟨hen, hon, hcoin, ht⟩))
    · obtain hout | ⟨hm, ht, hout⟩ := stepDot_out_of_inner hends
      · rw [hout] at hstat
        exact absurd hstat Bool.false_ne_true
      · rw [hout] at hstat
        exact .inl ⟨hstat, rfl, hm, ht⟩
  | wrLcdc d =>
    cases (exec_wrLcdc d s).symm.trans h
    obtain ⟨hen, hoff, hon, ht⟩ := stat_source_of_wrLcdc hstat
    exact .inr (.inr (.inl ⟨hen, ht, .inr ⟨d, rfl, hoff, hon⟩⟩))
  | wrLyc d =>
    cases (exec_wrLyc d s).symm.trans h
    obtain ⟨⟨⟨hcoin, hfell⟩, hon⟩, hen⟩ :
        (((s.ly == d) = true ∧ (!s.coin) = true) ∧ s.lcdc.getLsbD 7 = true) ∧ s.statEn.getLsbD 3 = true := by
      simpa only [Bool.and_eq_true] using hstat
    exact .inr (.inr (.inr ⟨hen, hon, (Bool.not_eq_true' _).mp hfell, hcoin⟩))
  | vwr a d =>
    cases (exec_vwr a d s).symm.trans h
    exact absurd hstat Bool.false_ne_true
  | owr a d =>
    cases (exec_owr a d s).symm.trans h
    exact absurd hstat Bool.false_ne_true
  | _ =>
    cases h
    exact absurd hstat Bool.false_ne_true

/-! ## The window mode -/

theorem windowCheck_winMode (s : State) : (windowCheck s).winMode = true ↔ windowStarts s ∨ s.winMode = true := by
  rw [windowCheck_eq]
  split
  next hstart => exact iff_of_true rfl (.inl hstart)
  next hnot => exact ⟨.inr, fun h => h.resolve_left hnot⟩

/-- A dot starts the window or leaves `win_mode` as it is; it never clears it (R205, R206). -/
theorem transferDot_winMode {s : State} (h : s.winMode = true) : (transferDot s).winMode = true := by
  cases hactive : s.sactive with
  | true => rw [transferDot_of_active hactive, spriteFetchDot_winMode, h]
  | false =>
    have hchecked : (windowCheck s).winMode = true := (windowCheck_winMode s).mpr (.inr h)
    rw [transferDot_of_idle hactive]
    split
    · rw [spriteFetchDot_winMode, spriteCheck_winMode, hchecked]
    · rw [mixDot_winMode, bgFetchDot_winMode, spriteCheck_winMode, hchecked]

/-- Settles O34: of all requests only STEP moves the fetcher. -/
theorem startedWindowStaysOn : Obligations.StartedWindowStaysOn := by
  intro i s t h hmode hwin _
  cases i with
  | step =>
    cases h
    cases hpower : lcdOn s with
    | false => rwa [stepDot_of_off (s := clearOut s) hpower]
    | true =>
      rw [stepDot_eq_of_transferring ⟨hpower, hmode⟩]
      exact transferDot_winMode (s := clearOut s) hwin
  | wrLcdc d =>
    cases h
    exact (switchDisplay_winMode _ _).trans hwin
  | vwr a d =>
    cases (exec_vwr a d s).symm.trans h
    exact hwin
  | owr a d =>
    cases (exec_owr a d s).symm.trans h
    exact hwin
  | _ =>
    cases h
    exact hwin

end Sys2Proof.Machine
end

section
/-! The end of PIXEL_TRANSFER (R155, R158) and the sprite fetch (R221, R222, R226). Settles O39, O40, O48 and O49. -/

namespace Sys2Proof.Machine

/-! ## The end of the dot -/

theorem stepDot_cursor {s : State} (h : transferring s) :
    (stepDot (clearOut s)).cursor = (transferDot (clearOut s)).cursor := by
  rw [stepDot_eq_of_transferring h]

/-- A dot that writes the 160th pixel enters HBLANK (R155). -/
theorem stepDot_of_cursor_eq {s : State} (h : transferring s) (hlast : (stepDot (clearOut s)).cursor = 160) :
    (stepDot (clearOut s)).mode = .hblank ∧ (stepDot (clearOut s)).out = { stat := s.statEn.getLsbD 0 } := by
  rw [stepDot_cursor h] at hlast
  rw [stepDot_eq_of_transferring h, hlast]
  exact ⟨rfl, rfl⟩

/-- A dot that does not write it stays, and the mark is set if it is the line's last (R158). -/
theorem stepDot_of_cursor_ne {s : State} (h : transferring s) (hinner : (stepDot (clearOut s)).cursor ≠ 160) :
    (stepDot (clearOut s)).mode = .pixelTransfer ∧ (stepDot (clearOut s)).out = {} ∧
      (s.dot = 455 → (stepDot (clearOut s)).faulted = true) := by
  rw [stepDot_cursor h] at hinner
  rw [stepDot_eq_of_transferring h]
  refine ⟨if_neg hinner, if_neg hinner, fun hdot => ?_⟩
  rw [hdot, bne_iff_ne.mpr hinner]
  exact Bool.or_true _

/-- Settles O39, by whether the dot writes the 160th pixel. -/
theorem transferEndsAtThe160thPixel : Obligations.TransferEndsAtThe160thPixel := by
  intro s _ h
  refine ⟨_, exec_step s, ?_, stepDot_of_cursor_eq h, fun hinner => ?_⟩
  · rw [stepDot_eq_of_transferring h]
  · obtain ⟨hmode, hout, -⟩ := stepDot_of_cursor_ne h hinner
    exact ⟨hmode, hout⟩

/-- Settles O40: the invariant keeps PIXEL_TRANSFER within dot 331. -/
theorem transferOverrunIsMarkedAndUnreachable : Obligations.TransferOverrunIsMarkedAndUnreachable := by
  refine fun s h hdot => ⟨?_, fun hinv => ?_⟩
  · rintro t ⟨⟩ hinner
    obtain ⟨-, -, hmark⟩ := stepDot_of_cursor_ne h hinner
    exact ⟨hmark hdot, step_of_faulted (hmark hdot)⟩
  · obtain ⟨-, -, hdots⟩ := hinv.transfer_dots h.2
    omega

/-! ## The sprite fetch -/

/-- A dot of a fetch in progress is the sprite fetcher's alone (R221). -/
theorem stepDot_of_fetching {s : State} (hinv : Inv s) (h : transferring s) (hactive : s.sactive = true) :
    stepDot (clearOut s) = countDot (spriteFetchDot (clearOut s)) := by
  rw [stepDot_of_transferring h, transferDot_of_active (s := clearOut s) hactive]
  exact hinv.afterTransfer_of_cursor_kept h.2 (spriteFetchDot_cursor _) (congrArg Nat.succ (spriteFetchDot_dot _))

/-- Settles O48, by what a dot of the sprite fetcher can do; the phase a finished fetch restarts is the one in progress. -/
theorem spriteFetchStallsEverythingElse : Obligations.SpriteFetchStallsEverythingElse := by
  intro s hinv h hactive
  obtain ⟨-, -, hsaved⟩ := hinv.sprite_fetch hactive
  obtain ⟨e, he⟩ := hinv.head_entry hactive
  refine ⟨_, exec_step s, ?_⟩
  rw [stepDot_of_fetching hinv h hactive]
  obtain ⟨p, b, a, l, heq, -⟩ | ⟨plane, heq⟩ := spriteFetchDot_cases (s := clearOut s) he
  · rw [heq]
    exact ⟨rfl, rfl, fun _ => ⟨rfl, rfl, rfl⟩⟩
  · rw [heq]
    exact ⟨rfl, hsaved, nofun⟩

/-! ## The six dots of a fetch -/

theorem spriteFetchDot_of_first {s : State} {e : Sprite} (he : s.queue[s.head]? = some e) (hsub : s.ssub = false) :
    spriteFetchDot s = { s with ssub := true } := by
  simp only [spriteFetchDot, he, hsub, Bool.false_eq_true, if_false]

theorem spriteFetchDot_of_addr {s : State} {e : Sprite} (he : s.queue[s.head]? = some e) (hsub : s.ssub = true)
    (hphase : s.sphase = .addr) : spriteFetchDot s = spriteAddr e s := by
  simp only [spriteFetchDot, he, hsub, hphase, if_true]

theorem spriteFetchDot_of_lo {s : State} {e : Sprite} (he : s.queue[s.head]? = some e) (hsub : s.ssub = true)
    (hphase : s.sphase = .lo) : spriteFetchDot s = spriteLow s := by
  simp only [spriteFetchDot, he, hsub, hphase, if_true]

theorem spriteFetchDot_of_hi {s : State} {e : Sprite} (he : s.queue[s.head]? = some e) (hsub : s.ssub = true)
    (hphase : s.sphase = .hi) : spriteFetchDot s = spriteHigh e s := by
  simp only [spriteFetchDot, he, hsub, hphase, if_true]

/-- The state `w`, at dot `n` of a sprite fetch that has reached `sub` of phase `p`, with `a` and `l` in its latches. -/
def fetchingSprite (w : State) (n : Nat) (p : SpritePhase) (sub : Bool) (a : BitVec 13) (l : Byte) : State :=
  { w with
    dot := n, out := {}, sactive := true, savedPhase := w.fphase, sphase := p, ssub := sub, saddr := a, sLo := l }

section
variable {w : State} {e : Sprite} {n : Nat} {a : BitVec 13} {l : Byte}

theorem stepDot_fetchingSprite {p : SpritePhase} {sub : Bool} (hinv : Inv (fetchingSprite w n p sub a l))
    (hw : transferring w) : stepDot (clearOut (fetchingSprite w n p sub a l)) =
      countDot (spriteFetchDot (fetchingSprite w n p sub a l)) := stepDot_of_fetching hinv hw rfl

theorem stepDot_fetchingSprite_first {p : SpritePhase} (hinv : Inv (fetchingSprite w n p false a l)) (hw : transferring w)
    (he : w.queue[w.head]? = some e) :
    stepDot (clearOut (fetchingSprite w n p false a l)) = fetchingSprite w (n + 1) p true a l := by
  rw [stepDot_fetchingSprite hinv hw, spriteFetchDot_of_first (s := fetchingSprite w n p false a l) he rfl]
  rfl

theorem stepDot_fetchingSprite_addr (hinv : Inv (fetchingSprite w n .addr true a l)) (hw : transferring w)
    (he : w.queue[w.head]? = some e) : stepDot (clearOut (fetchingSprite w n .addr true a l)) =
      fetchingSprite w (n + 1) .lo false (BitVec.ofNat 13 (spriteRowAddr w e)) l := by
  rw [stepDot_fetchingSprite hinv hw, spriteFetchDot_of_addr (s := fetchingSprite w n .addr true a l) he rfl rfl]
  rfl

theorem stepDot_fetchingSprite_lo (hinv : Inv (fetchingSprite w n .lo true a l)) (hw : transferring w)
    (he : w.queue[w.head]? = some e) : stepDot (clearOut (fetchingSprite w n .lo true a l)) =
      fetchingSprite w (n + 1) .hi false a (vramByte w a.toNat) := by
  rw [stepDot_fetchingSprite hinv hw, spriteFetchDot_of_lo (s := fetchingSprite w n .lo true a l) he rfl rfl]
  rfl

theorem stepDot_fetchingSprite_hi (hinv : Inv (fetchingSprite w n .hi true a l)) (hw : transferring w)
    (he : w.queue[w.head]? = some e) : stepDot (clearOut (fetchingSprite w n .hi true a l)) =
      { w with
        dot := n + 1, out := {}, saddr := a, sLo := l, sHi := vramByte w (a.toNat + 1), sphase := .hi, ssub := true
        savedPhase := w.fphase, sactive := false, fsub := false, head := w.head + 1
        slots := w.slots.set w.head
          { lo := slotPlane e.attr l (preShift w.cursor e)
            hi := slotPlane e.attr (vramByte w (a.toNat + 1)) (preShift w.cursor e)
            count := 8 - preShift w.cursor e, attr := e.attr } } := by
  rw [stepDot_fetchingSprite hinv hw, spriteFetchDot_of_hi (s := fetchingSprite w n .hi true a l) he rfl rfl]
  rfl

end

theorem Inv.after_afterSteps {s : State} (h : Inv s) (n : Nat) : Inv (afterSteps n s) := by
  induction n with
  | zero => exact h
  | succ n ih => exact ih.after_step

/-- The first five dots of a fetch, on the state the window check left (R222). -/
theorem afterSteps_of_triggers {s w : State} {e : Sprite} {a : BitVec 13} {low : Byte} (hinv : Inv s) (h : transferring s)
    (hidle : s.sactive = false) (htrigger : spriteTriggers s) (he : s.queue[s.head]? = some e) (hw : w = windowCheck s)
    (ha : a = BitVec.ofNat 13 (spriteRowAddr w e)) (hlow : low = vramByte w a.toNat) :
    afterSteps 1 s = fetchingSprite w (s.dot + 1) .addr true w.saddr w.sLo ∧
      afterSteps 2 s = fetchingSprite w (s.dot + 2) .lo false a w.sLo ∧
      afterSteps 3 s = fetchingSprite w (s.dot + 3) .lo true a w.sLo ∧
      afterSteps 4 s = fetchingSprite w (s.dot + 4) .hi false a low ∧
      afterSteps 5 s = fetchingSprite w (s.dot + 5) .hi true a low := by
  have hmode : transferring w := by rw [hw, transferring, windowCheck_lcdc, windowCheck_mode]; exact h
  have hentry : w.queue[w.head]? = some e := by rw [hw, windowCheck_queue, windowCheck_head]; exact he
  have h1 : afterSteps 1 s = fetchingSprite w (s.dot + 1) .addr true w.saddr w.sLo := by
    rw [hw]
    exact stepDot_of_triggers hinv h hidle htrigger
  have h2 : afterSteps 2 s = fetchingSprite w (s.dot + 2) .lo false a w.sLo := by
    rw [afterSteps_succ, h1, ha]
    exact stepDot_fetchingSprite_addr (h1 ▸ hinv.after_afterSteps 1) hmode hentry
  have h3 : afterSteps 3 s = fetchingSprite w (s.dot + 3) .lo true a w.sLo := by
    rw [afterSteps_succ, h2]
    exact stepDot_fetchingSprite_first (h2 ▸ hinv.after_afterSteps 2) hmode hentry
  have h4 : afterSteps 4 s = fetchingSprite w (s.dot + 4) .hi false a low := by
    rw [afterSteps_succ, h3, hlow]
    exact stepDot_fetchingSprite_lo (h3 ▸ hinv.after_afterSteps 3) hmode hentry
  have h5 : afterSteps 5 s = fetchingSprite w (s.dot + 5) .hi true a low := by
    rw [afterSteps_succ, h4]
    exact stepDot_fetchingSprite_first (h4 ▸ hinv.after_afterSteps 4) hmode hentry
  exact ⟨h1, h2, h3, h4, h5⟩

/-- The pre-shift over the natural numbers (R226). -/
theorem preShift_eq (cursor : Nat) (e : Sprite) : preShift cursor e = min 8 (cursor + 8 - e.x.toNat) := by
  unfold preShift spriteLeft
  omega

theorem spriteRowAddr_windowCheck (s : State) (e : Sprite) : spriteRowAddr (windowCheck s) e = spriteRowAddr s e := by
  rw [windowCheck_frame]
  rfl

theorem windowCheck_pair (s : State) :
    (windowCheck s).bgCount = (if windowStarts s then 0 else s.bgCount) ∧
      (windowCheck s).fphase = (if windowStarts s then .ti else s.fphase) := by
  rw [windowCheck_eq]
  split <;> exact ⟨rfl, rfl⟩

/-- The planes of a sprite's row are read where `saddr` points (R224, R225). -/
theorem vramByte_spriteRow (s : State) (e : Sprite) :
    vramByte (windowCheck s) (BitVec.ofNat 13 (spriteRowAddr s e)).toNat = Memory.read s.vram (spriteRowAddr s e) ∧
      vramByte (windowCheck s) ((BitVec.ofNat 13 (spriteRowAddr s e)).toNat + 1) =
        Memory.read s.vram (spriteRowAddr s e + 1) := by
  have hle := spriteRowAddr_le s e
  rw [toNat_ofNat_spriteRowAddr, vramByte_of_lt _ (by omega), vramByte_of_lt _ (by omega), windowCheck_vram]
  exact ⟨rfl, rfl⟩

/-- Settles O49: the first five dots are `afterSteps_of_triggers`, the sixth finishes the fetch. -/
theorem spriteFetchTakesSixDots : Obligations.SpriteFetchTakesSixDots := by
  intro s e hinv h hidle htrigger he a shift plane
  obtain ⟨h1, h2, h3, h4, h5⟩ := afterSteps_of_triggers hinv h hidle htrigger he rfl
    (congrArg (BitVec.ofNat 13) (spriteRowAddr_windowCheck s e).symm) rfl
  refine ⟨fun k hk1 hk5 => ⟨_, execSteps_eq k s, ?_⟩, _, execSteps_eq 6 s, ?_⟩
  · obtain ⟨p, sub, addr, low, hk⟩ : ∃ p sub addr low,
        afterSteps k s = fetchingSprite (windowCheck s) (s.dot + k) p sub addr low := by
      interval_cases k
      · exact ⟨_, _, _, _, h1⟩
      · exact ⟨_, _, _, _, h2⟩
      · exact ⟨_, _, _, _, h3⟩
      · exact ⟨_, _, _, _, h4⟩
      · exact ⟨_, _, _, _, h5⟩
    rw [hk]
    exact ⟨rfl, windowCheck_head s, windowCheck_slots s⟩
  · obtain ⟨hlow, hhigh⟩ := vramByte_spriteRow s e
    obtain ⟨hcount, hphase⟩ := windowCheck_pair s
    have hmode : transferring (windowCheck s) := by
      rw [transferring, windowCheck_lcdc, windowCheck_mode]
      exact h
    have hentry : (windowCheck s).queue[(windowCheck s).head]? = some e := by
      rw [windowCheck_queue, windowCheck_head]
      exact he
    rw [afterSteps_succ, h5, stepDot_fetchingSprite_hi (h5 ▸ hinv.after_afterSteps 5) hmode hentry, hlow, hhigh,
      preShift_eq, windowCheck_cursor, windowCheck_head, windowCheck_slots]
    exact ⟨rfl, rfl, rfl, windowCheck_mode s, rfl, windowCheck_fb s, hcount, hphase, rfl, rfl⟩

end Sys2Proof.Machine
end

section
/-! The mixer's dot (R240, R245 to R247) on the pair the fetcher's dot left (R195, R200), and what a dot of any kind does to the
frame buffer. Settles O52 and O29. -/

namespace Sys2Proof.Machine

/-! ## The pair after the fetcher's dot -/

theorem bgFetchDot_of_loadsPair {s : State} (h : loadsPair s) : bgFetchDot s =
    { s with
      bgLo := s.loLatch, bgHi := s.hiLatch, bgCount := 8
      winTile := if s.winMode then s.winTile + 1 else s.winTile
      bgTile := if s.winMode then s.bgTile else s.bgTile + 1
      fphase := .ti, fsub := false } := by
  obtain ⟨hsub, hphase, hempty⟩ := h
  rw [bgFetchDot_of_push hsub hphase, pushTile_of_empty hempty]

/-- Only a load touches the pair (R191, R195). -/
theorem bgFetchDot_pair_of_not_loads {s : State} (h : ¬ loadsPair s) :
    (bgFetchDot s).bgCount = s.bgCount ∧ (bgFetchDot s).bgLo = s.bgLo ∧ (bgFetchDot s).bgHi = s.bgHi := by
  cases hsub : s.fsub with
  | false =>
    rw [bgFetchDot_of_first hsub]
    exact ⟨rfl, rfl, rfl⟩
  | true =>
    cases hphase : s.fphase with
    | ti =>
      rw [bgFetchDot_of_ti hsub hphase]
      exact ⟨rfl, rfl, rfl⟩
    | lo =>
      rw [bgFetchDot_of_lo hsub hphase]
      exact ⟨rfl, rfl, rfl⟩
    | hi =>
      rw [bgFetchDot_of_hi hsub hphase]
      exact ⟨rfl, rfl, rfl⟩
    | push =>
      rw [bgFetchDot_of_push hsub hphase, pushTile_of_full fun hempty => h ⟨hsub, hphase, hempty⟩]
      exact ⟨rfl, rfl, rfl⟩

theorem bgFetchDot_pair (s : State) :
    (bgFetchDot s).bgCount = pairCount s ∧ (bgFetchDot s).bgLo = pairLo s ∧ (bgFetchDot s).bgHi = pairHi s := by
  unfold pairCount pairLo pairHi
  by_cases h : loadsPair s
  · rw [if_pos h, if_pos h, if_pos h, bgFetchDot_of_loadsPair h]
    exact ⟨rfl, rfl, rfl⟩
  · rw [if_neg h, if_neg h, if_neg h]
    exact bgFetchDot_pair_of_not_loads h

/-- Of what the fetcher's dot changes, the arbitration looks at the pair alone (R241 to R244). -/
theorem mixShade_bgFetchDot (s : State) :
    mixShade (bgFetchDot s) = mixShade { s with bgLo := pairLo s, bgHi := pairHi s } := by
  obtain ⟨-, hlo, hhi⟩ := bgFetchDot_pair s
  rw [← hlo, ← hhi, bgFetchDot_frame]
  rfl

/-! ## The mixer by case -/

theorem mixDot_of_discard {s : State} (hfull : s.bgCount ≠ 0) (hdiscard : s.discard ≠ 0) :
    mixDot s = { shiftBg s with discard := s.discard - 1 } := by
  rw [mixDot, if_neg hfull, if_pos (Nat.pos_of_ne_zero hdiscard)]

theorem mixDot_of_pixel {s : State} (hfull : s.bgCount ≠ 0) (hdiscard : s.discard = 0) : mixDot s = writePixel s := by
  rw [mixDot, if_neg hfull, hdiscard, if_neg (Nat.lt_irrefl 0)]

/-- The slots of the queue's entries shift, the others stay (R246). -/
theorem shiftSlots_getElem? {n k : Nat} {slots : List Slot} {z : Slot} (h : slots[k]? = some z) :
    (shiftSlots n slots)[k]? = some (if k < n then shiftSlot z else z) := by
  obtain ⟨hlen, -⟩ := List.getElem?_eq_some_iff.mp h
  by_cases hk : k < n
  · rw [shiftSlots, List.getElem?_append_left (by simp; omega), List.getElem?_map, List.getElem?_take_of_lt hk, h, if_pos hk]
    rfl
  · have htake : (List.map shiftSlot (slots.take n)).length = n := by simp; omega
    rw [shiftSlots, List.getElem?_append_right (by omega), htake, List.getElem?_drop, Nat.add_sub_cancel' (by omega), h,
      if_neg hk]

theorem shiftSlot_of_active {z : Slot} (h : 0 < z.count) :
    shiftSlot z = { lo := z.lo <<< 1, hi := z.hi <<< 1, count := z.count - 1, attr := z.attr } := if_pos h

theorem shiftSlot_of_done {z : Slot} (h : ¬ 0 < z.count) : shiftSlot z = z := if_neg h

theorem mixDot_slots_length (s : State) : (mixDot s).slots.length = s.slots.length := by
  obtain ⟨-, heq⟩ | ⟨-, -, heq⟩ | ⟨-, heq⟩ := mixDot_cases s
  · rw [heq]
  · rw [heq]
    rfl
  · rw [heq, writePixel_eq]
    exact shiftSlots_length _ _

/-- Settles O52, by what the mixer does with the pair the fetcher's dot left. -/
theorem mixerStallsDiscardsOrWritesOnePixel : Obligations.MixerStallsDiscardsOrWritesOnePixel := by
  rintro s h ⟨hsorted, -⟩
  obtain ⟨hcount, hlo, hhi⟩ := bgFetchDot_pair (clearOut s)
  have hdiscard : (bgFetchDot (clearOut s)).discard = s.discard := bgFetchDot_discard _
  refine ⟨_, exec_step s, h.frame, ?_⟩
  rw [stepDot_of_plainDot h, afterTransfer_mixDot_frame]
  refine ⟨?_, fun hempty => ?_, fun hfull hdrop => ?_, fun hfull hnone => ?_⟩
  · exact (mixDot_slots_length _).trans (congrArg List.length (bgFetchDot_slots (clearOut s)))
  · rw [mixDot_of_empty (hcount.trans hempty), bgFetchDot_frame]
    exact ⟨rfl, rfl, rfl, rfl, hcount.trans hempty⟩
  · rw [mixDot_of_discard (hcount.trans_ne hfull) (hdiscard.trans_ne hdrop)]
    exact ⟨bgFetchDot_cursor _, congrArg (· - 1) hdiscard, bgFetchDot_slots _, bgFetchDot_fb _, congrArg (· - 1) hcount,
      congrArg (fun b : Byte => b <<< 1) hlo, congrArg (fun b : Byte => b <<< 1) hhi⟩
  · rw [mixDot_of_pixel (hcount.trans_ne hfull) (hdiscard.trans hnone), writePixel_eq, mixShade_bgFetchDot]
    refine ⟨congrArg (· + 1) (bgFetchDot_cursor _), hdiscard.trans hnone, congrArg (· - 1) hcount,
      congrArg (fun b : Byte => b <<< 1) hlo, congrArg (fun b : Byte => b <<< 1) hhi, fun k => ?_, fun k z hz => ?_⟩
    · rw [bgFetchDot_fb, bgFetchDot_ly, bgFetchDot_cursor]
      exact Memory.read_write s.fb _ k _ hsorted
    · rw [bgFetchDot_slots, bgFetchDot_queue]
      refine (shiftSlots_getElem? hz).trans ?_
      by_cases hk : k < s.queue.length
      · by_cases hz : 0 < z.count
        · rw [clearOut_queue, if_pos hk, if_pos ⟨hk, hz⟩, shiftSlot_of_active hz]
        · rw [clearOut_queue, if_pos hk, if_neg fun h => hz h.2, shiftSlot_of_done hz]
      · rw [clearOut_queue, if_neg hk, if_neg fun h => hk h.1]

/-! ## The frame buffer -/

/-- The state with another frame buffer. -/
def setFb (f : Memory 2) (s : State) : State := { s with fb := f }

theorem setFb_fb (s : State) : setFb s.fb s = s := rfl

/-- What an operation of a dot does to any frame buffer (R245): it leaves it and the cursor, or it stores a shade at the cursor
of the line, the same for every frame buffer, and moves the cursor on. -/
def DrawsAtCursor (op : State → State) (s : State) : Prop :=
  ((∀ f, op (setFb f s) = setFb f (op s)) ∧ (op s).cursor = s.cursor) ∨
    ∃ shade, (∀ f, op (setFb f s) = setFb (Memory.write f (pixelKey s.ly s.cursor) shade) (op s)) ∧
      (op s).cursor = s.cursor + 1

theorem windowCheck_setFb (f : Memory 2) (s : State) : windowCheck (setFb f s) = setFb f (windowCheck s) := by
  rw [windowCheck, windowCheck, apply_ite (setFb f)]
  rfl

theorem spriteFetchDot_of_no_entry {s : State} (h : s.queue[s.head]? = none) : spriteFetchDot s = markFaulted s := by
  simp only [spriteFetchDot, h]

theorem spriteFetchDot_setFb (f : Memory 2) (s : State) : spriteFetchDot (setFb f s) = setFb f (spriteFetchDot s) := by
  cases he : s.queue[s.head]? with
  | none => rw [spriteFetchDot_of_no_entry he, spriteFetchDot_of_no_entry (s := setFb f s) he]; rfl
  | some e =>
    cases hsub : s.ssub with
    | false => rw [spriteFetchDot_of_first he hsub, spriteFetchDot_of_first (s := setFb f s) he hsub]; rfl
    | true =>
      cases hphase : s.sphase with
      | addr => rw [spriteFetchDot_of_addr he hsub hphase, spriteFetchDot_of_addr (s := setFb f s) he hsub hphase]; rfl
      | lo => rw [spriteFetchDot_of_lo he hsub hphase, spriteFetchDot_of_lo (s := setFb f s) he hsub hphase]; rfl
      | hi => rw [spriteFetchDot_of_hi he hsub hphase, spriteFetchDot_of_hi (s := setFb f s) he hsub hphase]; rfl

theorem pushTile_setFb (f : Memory 2) (s : State) : pushTile (setFb f s) = setFb f (pushTile s) := by
  rw [pushTile, pushTile, apply_ite (setFb f)]
  rfl

theorem bgFetchDot_setFb (f : Memory 2) (s : State) : bgFetchDot (setFb f s) = setFb f (bgFetchDot s) := by
  cases hsub : s.fsub with
  | false => rw [bgFetchDot_of_first hsub, bgFetchDot_of_first (s := setFb f s) hsub]; rfl
  | true =>
    cases hphase : s.fphase with
    | ti => rw [bgFetchDot_of_ti hsub hphase, bgFetchDot_of_ti (s := setFb f s) hsub hphase]; rfl
    | lo => rw [bgFetchDot_of_lo hsub hphase, bgFetchDot_of_lo (s := setFb f s) hsub hphase]; rfl
    | hi => rw [bgFetchDot_of_hi hsub hphase, bgFetchDot_of_hi (s := setFb f s) hsub hphase]; rfl
    | push =>
      rw [bgFetchDot_of_push hsub hphase, bgFetchDot_of_push (s := setFb f s) hsub hphase]
      exact pushTile_setFb f s

theorem mixDot_draws (s : State) : DrawsAtCursor mixDot s := by
  by_cases hempty : s.bgCount = 0
  · refine .inl ⟨fun f => ?_, ?_⟩
    · rw [mixDot_of_empty hempty, mixDot_of_empty (s := setFb f s) hempty]
    · rw [mixDot_of_empty hempty]
  by_cases hdiscard : s.discard = 0
  · refine .inr ⟨mixShade s, fun f => ?_, ?_⟩
    · rw [mixDot_of_pixel hempty hdiscard, mixDot_of_pixel (s := setFb f s) hempty hdiscard]
      rfl
    · rw [mixDot_of_pixel hempty hdiscard]
      rfl
  · refine .inl ⟨fun f => ?_, ?_⟩
    · rw [mixDot_of_discard hempty hdiscard, mixDot_of_discard (s := setFb f s) hempty hdiscard]
      rfl
    · rw [mixDot_of_discard hempty hdiscard]
      rfl

/-- An operation that leaves the frame buffer, the line and the cursor can come before one that draws. -/
theorem DrawsAtCursor.comp {op pre : State → State} {s : State} (h : DrawsAtCursor op (pre s))
    (hpre : ∀ f, pre (setFb f s) = setFb f (pre s)) (hly : (pre s).ly = s.ly) (hcursor : (pre s).cursor = s.cursor) :
    DrawsAtCursor (fun u => op (pre u)) s := by
  unfold DrawsAtCursor at h ⊢
  simpa only [hpre, hly, hcursor] using h

theorem transferDot_draws (s : State) : DrawsAtCursor transferDot s := by
  cases hactive : s.sactive with
  | true =>
    have heq (f : Memory 2) : transferDot (setFb f s) = spriteFetchDot (setFb f s) := transferDot_of_active hactive
    refine .inl ⟨fun f => ?_, ?_⟩
    · rw [heq, transferDot_of_active hactive, spriteFetchDot_setFb]
    · rw [transferDot_of_active hactive, spriteFetchDot_cursor]
  | false =>
    by_cases htrigger : spriteTriggers (windowCheck s)
    · refine .inl ⟨fun f => ?_, ?_⟩
      · have htrigger' : spriteTriggers (windowCheck (setFb f s)) := by rwa [windowCheck_setFb]
        rw [transferDot_of_triggers hactive htrigger, transferDot_of_triggers (s := setFb f s) hactive htrigger',
          windowCheck_setFb]
        rfl
      · rw [transferDot_of_triggers hactive htrigger]
        exact windowCheck_cursor s
    · have heq (f : Memory 2) : transferDot (setFb f s) = mixDot (bgFetchDot (windowCheck (setFb f s))) :=
        transferDot_of_not_triggers hactive (by rwa [windowCheck_setFb])
      have hdraws : DrawsAtCursor (fun u => mixDot (bgFetchDot (windowCheck u))) s :=
        (mixDot_draws _).comp (pre := fun u => bgFetchDot (windowCheck u)) (fun f => by rw [windowCheck_setFb, bgFetchDot_setFb])
          (by rw [bgFetchDot_ly, windowCheck_ly]) (by rw [bgFetchDot_cursor, windowCheck_cursor])
      unfold DrawsAtCursor at hdraws ⊢
      simpa only [heq, transferDot_of_not_triggers hactive htrigger] using hdraws

/-- A dot outside PIXEL_TRANSFER leaves the frame buffer. -/
theorem stepDot_fb_of_not_transferring {s : State} (h : ¬ transferring s) : (stepDot s).fb = s.fb := by
  cases hpower : lcdOn s with
  | false => rw [stepDot_of_off hpower]
  | true =>
    have hblank : (blankDot s).fb = s.fb := by
      unfold blankDot
      split
      · rw [endOfLine_frame]
        rfl
      · rfl
    cases hmode : s.mode with
    | hblank => rw [stepDot_of_blank hpower (.inl hmode), hblank]
    | vblank => rw [stepDot_of_blank hpower (.inr hmode), hblank]
    | oamSearch =>
      rw [stepDot_of_search hpower hmode, oamDot]
      split
      · rw [enterTransfer_frame]
        rfl
      · rfl
    | pixelTransfer => exact absurd ⟨hpower, hmode⟩ h

/-- A request other than STEP leaves the frame buffer. -/
theorem exec_fb_of_not_step {i : Instr} {s t : State} (h : exec i s = .next t) (hstep : i ≠ .step) : t.fb = s.fb := by
  cases i with
  | step => exact absurd rfl hstep
  | wrLcdc d =>
    cases h
    exact switchDisplay_fb _ _
  | vwr a d =>
    cases (exec_vwr a d s).symm.trans h
    rfl
  | owr a d =>
    cases (exec_owr a d s).symm.trans h
    rfl
  | _ =>
    cases h
    rfl

/-- Settles O29: what a PIXEL_TRANSFER dot draws, it draws at the cursor, and nothing else draws. -/
theorem frameBufferChangesOnlyAtTheCursor : Obligations.FrameBufferChangesOnlyAtTheCursor := by
  rintro i s t ⟨hsorted, -⟩ h k hne
  have hchanged : t.fb ≠ s.fb := fun heq => hne (by rw [heq])
  by_cases hstep : i = .step
  · subst hstep
    cases h
    by_cases htransfer : transferring s
    · rw [stepDot_eq_of_transferring htransfer] at hne hchanged ⊢
      obtain ⟨hdraw, -⟩ | ⟨shade, hdraw, hcursor⟩ := transferDot_draws (clearOut s)
      · exact absurd (congrArg State.fb (hdraw s.fb)) hchanged
      · have hfb : (transferDot (clearOut s)).fb = Memory.write s.fb (pixelKey s.ly s.cursor) shade :=
          congrArg State.fb (hdraw s.fb)
        refine ⟨rfl, htransfer, ?_, hcursor⟩
        by_contra hk
        exact hne (by rw [hfb]; exact Memory.read_write_other s.fb _ k shade hk hsorted)
    · exact absurd (stepDot_fb_of_not_transferring (s := clearOut s) htransfer) hchanged
  · exact absurd (exec_fb_of_not_step h hstep) hchanged

end Sys2Proof.Machine
end

section
/-! The length of PIXEL_TRANSFER: at most 251 dots whatever the line holds (R169), and exactly 167 + SCX mod 8 on a line with no
window and no sprite (R165). Settles O54 and O55. -/

namespace Sys2Proof.Machine

/-! ## At most 251 dots -/

theorem transferDotsLeft_pos {s : State} (hcursor : s.cursor < 160) : 0 < transferDotsLeft s := by
  unfold transferDotsLeft
  omega

/-- A dot of PIXEL_TRANSFER stays in the mode or writes the 160th pixel (R155). -/
theorem stepDot_of_transferring_cases {s : State} (h : transferring s) :
    (stepDot (clearOut s)).dot = s.dot + 1 ∧
      ((stepDot (clearOut s)).mode = .pixelTransfer ∨
        ((stepDot (clearOut s)).mode = .hblank ∧ (stepDot (clearOut s)).cursor = 160)) := by
  refine ⟨by rw [stepDot_eq_of_transferring h], ?_⟩
  by_cases hlast : (stepDot (clearOut s)).cursor = 160
  · obtain ⟨hmode, -⟩ := stepDot_of_cursor_eq h hlast
    exact .inr ⟨hmode, hlast⟩
  · obtain ⟨hmode, -, -⟩ := stepDot_of_cursor_ne h hlast
    exact .inl hmode

theorem Inv.transferring_of_mode {s : State} (h : Inv s) (hmode : s.mode = .pixelTransfer) : transferring s :=
  ⟨h.on_of_mode (by rw [hmode]; nofun), hmode⟩

/-- PIXEL_TRANSFER ends by dot 331 (R33, R169): a dot on, the invariant still leaves it no room past that dot. -/
theorem Inv.transfer_ends {s : State} (h : Inv s) (hmode : s.mode = .pixelTransfer) :
    ∃ L, s.dot + L ≤ 331 ∧ (∀ k < L, (afterSteps k s).mode = .pixelTransfer) ∧
      (afterSteps L s).mode = .hblank ∧ (afterSteps L s).dot = s.dot + L ∧ (afterSteps L s).cursor = 160 := by
  induction hroom : 331 - s.dot generalizing s with
  | zero =>
    obtain ⟨-, hcursor, hdots⟩ := h.transfer_dots hmode
    have hpos := transferDotsLeft_pos hcursor
    omega
  | succ n ih =>
    obtain ⟨hdot, hnext⟩ := stepDot_of_transferring_cases (h.transferring_of_mode hmode)
    obtain hmode' | ⟨hmode', hcursor'⟩ := hnext
    · obtain ⟨L, hL, hstay, hend, hdotL, hcursorL⟩ := ih h.after_step hmode' (by omega)
      rw [afterSteps_stepDot] at hend hdotL hcursorL
      refine ⟨L + 1, by omega, fun k hk => ?_, hend, by omega, hcursorL⟩
      cases k with
      | zero => exact hmode
      | succ k =>
        rw [← afterSteps_stepDot]
        exact hstay k (Nat.lt_of_succ_lt_succ hk)
    · refine ⟨1, by omega, fun k hk => ?_, hmode', hdot, hcursor'⟩
      obtain rfl : k = 0 := by omega
      exact hmode

/-- Settles O54: PIXEL_TRANSFER is entered at dot 80 and ends by dot 331. -/
theorem transferLastsAtMost251Dots : Obligations.TransferLastsAtMost251Dots := by
  intro s hinv hon hmode hdot
  have hentry := startupStall_one hon hmode hdot
  have hentryDot : (stepDot (clearOut s)).dot = 80 := hentry.dot
  obtain ⟨L, hL, hstay, hend, hdotL, hcursorL⟩ := hinv.after_step.transfer_ends hentry.mode
  rw [afterSteps_stepDot] at hend hdotL hcursorL
  refine ⟨L, by omega, fun k hk1 hkL => ⟨_, execSteps_eq k s, ?_⟩, _, execSteps_eq (1 + L) s, ?_⟩
  · obtain ⟨j, rfl⟩ := Nat.exists_eq_add_of_le' hk1
    rw [← afterSteps_stepDot]
    exact hstay j hkL
  · rw [Nat.add_comm 1 L]
    exact ⟨hend, by omega, hcursorL⟩

/-! ## The dots of the pixels -/

/-- The dots the pixels of the line still need: of `transferDotsLeft`, what no sprite and no window start costs. -/
def pixelDotsLeft (s : State) : Nat := 160 - s.cursor + s.discard + stallDotsLeft s

/-- A line whose fetcher keeps up with its mixer (R200): it stalls before its first pixel alone, and drops pixels before it
alone. -/
structure Streaming (s : State) : Prop where
  cursor_le : s.cursor ≤ 160
  stall : s.cursor ≠ 0 ∨ s.bgCount ≠ 0 → stallDotsLeft s = 0
  discard : s.cursor ≠ 0 → s.discard = 0

/-- Its pixels need no more dots exactly when the 160th is written. -/
theorem Streaming.pixelDotsLeft_eq_zero_iff {s : State} (h : Streaming s) : pixelDotsLeft s = 0 ↔ s.cursor = 160 := by
  have hle := h.cursor_le
  unfold pixelDotsLeft
  constructor
  · omega
  · intro hlast
    have hne : s.cursor ≠ 0 := by omega
    have hstall := h.stall (.inl hne)
    have hdiscard := h.discard hne
    omega

/-- After the fetcher's dot a pair that holds pixels outlasts the fetch of the next tile (R200). -/
theorem Streaming.fetchDotsLeft_bgFetchDot_le {s : State} (h : Streaming s) (hfull : (bgFetchDot s).bgCount ≠ 0) :
    fetchDotsLeft (bgFetchDot s) ≤ (bgFetchDot s).bgCount := by
  have hstall := bgFetchDot_stall s
  obtain ⟨-, -, hcount, hleft⟩ | ⟨hheld, -, -, -⟩ | ⟨hcount, -⟩ := bgFetchDot_cases s
  · omega
  · have hzero := h.stall (.inr (by omega))
    omega
  · have hzero := h.stall (.inr (by omega))
    omega

theorem fetchDotsLeft_mixDot (s : State) : fetchDotsLeft (mixDot s) = fetchDotsLeft s := by
  rw [mixDot_frame]
  rfl

/-- The fetcher's dot and the mixer's spend exactly one dot of the pixels', by what the mixer does (R240). -/
theorem Streaming.after_mixDot {s : State} (h : Streaming s) (hcursor : s.cursor < 160) :
    Streaming (mixDot (bgFetchDot s)) ∧ pixelDotsLeft (mixDot (bgFetchDot s)) + 1 = pixelDotsLeft s := by
  have hstall : fetchDotsLeft (bgFetchDot s) - (bgFetchDot s).bgCount = stallDotsLeft s := bgFetchDot_stall s
  have hpos : 0 < fetchDotsLeft (bgFetchDot s) := fetchDotsLeft_pos (bgFetchDot s)
  have hkept : (bgFetchDot s).cursor = s.cursor ∧ (bgFetchDot s).discard = s.discard :=
    ⟨bgFetchDot_cursor s, bgFetchDot_discard s⟩
  have hleft : fetchDotsLeft (mixDot (bgFetchDot s)) = fetchDotsLeft (bgFetchDot s) := fetchDotsLeft_mixDot _
  have hdropped := h.discard
  have hbefore := h.stall
  unfold pixelDotsLeft stallDotsLeft at *
  by_cases hempty : (bgFetchDot s).bgCount = 0
  · rw [mixDot_of_empty hempty]
    exact ⟨⟨by omega, by unfold stallDotsLeft; omega, by omega⟩, by omega⟩
  have hkeepsUp := h.fetchDotsLeft_bgFetchDot_le hempty
  by_cases hdrop : (bgFetchDot s).discard = 0
  · have hmixed : (mixDot (bgFetchDot s)).cursor = (bgFetchDot s).cursor + 1 ∧
        (mixDot (bgFetchDot s)).discard = (bgFetchDot s).discard ∧
        (mixDot (bgFetchDot s)).bgCount = (bgFetchDot s).bgCount - 1 := by
      rw [mixDot_of_pixel hempty hdrop]
      exact ⟨rfl, rfl, rfl⟩
    exact ⟨⟨by omega, by unfold stallDotsLeft; omega, by omega⟩, by omega⟩
  · have hmixed : (mixDot (bgFetchDot s)).cursor = (bgFetchDot s).cursor ∧
        (mixDot (bgFetchDot s)).discard = (bgFetchDot s).discard - 1 ∧
        (mixDot (bgFetchDot s)).bgCount = (bgFetchDot s).bgCount - 1 := by
      rw [mixDot_of_discard hempty hdrop]
      exact ⟨rfl, rfl, rfl⟩
    exact ⟨⟨by omega, by unfold stallDotsLeft; omega, by omega⟩, by omega⟩

/-! ## A line with no window and no sprite -/

/-- `k` STEPs after dot 79 of a line of the state `s` on which no window starts and no sprite is fetched. -/
structure PlainLine (s : State) (k : Nat) (t : State) : Prop where
  lcdc : t.lcdc = s.lcdc
  wx : t.wx = s.wx
  queue : t.queue = s.queue
  winLine : t.winLine = windowLine s
  idle : t.sactive = false
  mode : t.mode = .pixelTransfer
  dot : t.dot = 79 + k
  streaming : Streaming t
  left : pixelDotsLeft t + k = 168 + s.scx.toNat % 8

/-- The line cannot start the window: it does not show it, or WX lies off its right edge (R204, R205). -/
abbrev NoWindow (s : State) : Prop := s.lcdc.getLsbD 5 = false ∨ s.ly.toNat < s.wy.toNat ∨ 167 ≤ s.wx.toNat

/-- The line cannot fetch a sprite (R220). -/
abbrev NoSprite (s : State) : Prop := s.lcdc.getLsbD 1 = false ∨ s.queue = []

theorem windowLine_iff (s : State) : windowLine s = true ↔ s.lcdc.getLsbD 5 = true ∧ s.wy.toNat ≤ s.ly.toNat := by
  rw [windowLine, Bool.and_eq_true, decide_eq_true_iff]
  rfl

theorem NoWindow.windowAtLeft {s : State} (h : NoWindow s) : windowAtLeft s = false := by
  rw [← Bool.not_eq_true, Machine.windowAtLeft, Bool.and_eq_true, decide_eq_true_iff, windowLine_iff]
  rintro ⟨⟨hen, hwy⟩, hwx⟩
  obtain hoff | hly | hright := h
  · exact Bool.eq_false_iff.mp hoff hen
  · omega
  · omega

theorem PlainLine.plain {s t : State} {k : Nat} (h : PlainLine s k t) (hon : s.lcdc.getLsbD 7 = true) (hwindow : NoWindow s)
    (hsprite : NoSprite s) (hcursor : t.cursor < 160) : plainDot t := by
  refine ⟨⟨by rw [h.lcdc, hon], h.mode⟩, h.idle, ?_, ?_⟩
  · rintro ⟨hen, e, he, -⟩
    rw [h.lcdc] at hen
    rw [h.queue] at he
    obtain hoff | hnone := hsprite
    · exact Bool.eq_false_iff.mp hoff hen
    · rw [hnone] at he
      cases he
  · rintro ⟨hline, -, -, -, hcol⟩
    rw [h.winLine, windowLine_iff] at hline
    rw [h.wx] at hcol
    obtain ⟨hen, hwy⟩ := hline
    obtain hoff | hly | hright := hwindow
    · exact Bool.eq_false_iff.mp hoff hen
    · omega
    · omega

/-- PIXEL_TRANSFER entry leaves the pixels 160 columns, the discard of SCX, and the seven dots of the startup stall (R200,
R204). -/
theorem plainLine_one {s : State} (hon : s.lcdc.getLsbD 7 = true) (hmode : s.mode = .oamSearch) (hdot : s.dot = 79)
    (hwindow : NoWindow s) : PlainLine s 1 (stepDot (clearOut s)) := by
  have hlast : (clearOut s).dot + 1 = 80 := congrArg Nat.succ hdot
  have hleft : windowAtLeft (countDot (clearOut s)) = false := NoWindow.windowAtLeft (s := s) hwindow
  rw [stepDot_of_search (s := clearOut s) hon hmode, oamDot_of_last hlast, enterTransfer_eq, hleft]
  refine
    { lcdc := rfl, wx := rfl, queue := rfl, winLine := rfl, idle := rfl, mode := rfl, dot := hlast, streaming := ?_
      left := ?_ }
  · exact ⟨Nat.zero_le _, fun hne => absurd hne (by simp), fun hne => absurd rfl hne⟩
  · change 160 - 0 + s.scx.toNat % 8 + 7 + 1 = _
    omega

/-- The end of the dot does not touch what the pixels need. -/
theorem Streaming.after_end {s : State} (h : Streaming s) :
    Streaming (afterTransfer (countDot s)) ∧ pixelDotsLeft (afterTransfer (countDot s)) = pixelDotsLeft s := by
  rw [afterTransfer_frame]
  exact ⟨⟨h.cursor_le, h.stall, h.discard⟩, rfl⟩

theorem Streaming.after_plainDot {s : State} (h : Streaming s) (hplain : plainDot s) (hcursor : s.cursor < 160) :
    Streaming (stepDot (clearOut s)) ∧ pixelDotsLeft (stepDot (clearOut s)) + 1 = pixelDotsLeft s := by
  have hcleared : Streaming (clearOut s) := ⟨h.cursor_le, h.stall, h.discard⟩
  obtain ⟨hmixed, hspent⟩ := hcleared.after_mixDot hcursor
  obtain ⟨hend, heq⟩ := hmixed.after_end
  rw [stepDot_of_plainDot hplain]
  exact ⟨hend, heq ▸ hspent⟩

/-- A dot that does not write the 160th pixel goes on within the line. -/
theorem PlainLine.succ {s t : State} {k : Nat} (h : PlainLine s k t) (hplain : plainDot t) (hcursor : t.cursor < 160)
    (hk : k < 167 + s.scx.toNat % 8) : PlainLine s (k + 1) (stepDot (clearOut t)) := by
  obtain ⟨hstreaming, hspent⟩ := h.streaming.after_plainDot hplain hcursor
  have hleft := h.left
  have hinner : (stepDot (clearOut t)).cursor ≠ 160 := fun hlast => by
    have hzero := hstreaming.pixelDotsLeft_eq_zero_iff.mpr hlast
    omega
  obtain ⟨hmode, -, -⟩ := stepDot_of_cursor_ne hplain.1 hinner
  have hframe : plainDotFrame t (stepDot (clearOut t)) := hplain.frame
  refine
    { lcdc := ?_, wx := ?_, queue := ?_, winLine := ?_, idle := ?_, mode := hmode, dot := ?_, streaming := hstreaming
      left := by omega }
  all_goals rw [hframe]
  · exact h.lcdc
  · exact h.wx
  · exact h.queue
  · exact h.winLine
  · exact h.idle
  · exact congrArg Nat.succ h.dot

theorem PlainLine.cursor_lt {s t : State} {k : Nat} (h : PlainLine s k t) (hk : k ≤ 167 + s.scx.toNat % 8) :
    t.cursor < 160 := by
  have hle := h.streaming.cursor_le
  have hleft := h.left
  have hlast : t.cursor ≠ 160 := fun hlast => by
    have hzero := h.streaming.pixelDotsLeft_eq_zero_iff.mpr hlast
    omega
  omega

theorem plainLine_afterSteps {s : State} (hon : s.lcdc.getLsbD 7 = true) (hmode : s.mode = .oamSearch) (hdot : s.dot = 79)
    (hwindow : NoWindow s) (hsprite : NoSprite s) {k : Nat} (hk : k < 167 + s.scx.toNat % 8) :
    PlainLine s (k + 1) (afterSteps (k + 1) s) := by
  induction k with
  | zero => exact plainLine_one hon hmode hdot hwindow
  | succ k ih =>
    have hline := ih (Nat.lt_of_succ_lt hk)
    have hcursor := hline.cursor_lt (Nat.le_of_lt hk)
    rw [afterSteps_succ]
    exact hline.succ (hline.plain hon hwindow hsprite hcursor) hcursor hk

/-- Settles O55: each dot of such a line spends one of the dots its pixels need, and they run out with the 160th pixel. -/
theorem plainLineTransferLength : Obligations.PlainLineTransferLength := by
  intro s _ hon hmode hdot hwindow hsprite
  refine ⟨fun k hk1 hk => ⟨_, execSteps_eq k s, ?_⟩, _, execSteps_eq (1 + (167 + s.scx.toNat % 8)) s, ?_⟩
  · obtain ⟨j, rfl⟩ := Nat.exists_eq_add_of_le' hk1
    exact (plainLine_afterSteps hon hmode hdot hwindow hsprite hk).mode
  · obtain ⟨n, hn⟩ : ∃ n, 167 + s.scx.toNat % 8 = n + 1 := ⟨166 + s.scx.toNat % 8, by omega⟩
    have hline := plainLine_afterSteps hon hmode hdot hwindow hsprite (k := n) (by omega)
    have hcursor := hline.cursor_lt (by omega)
    have hplain := hline.plain hon hwindow hsprite hcursor
    obtain ⟨hstreaming, hspent⟩ := hline.streaming.after_plainDot hplain hcursor
    have hleft := hline.left
    have hlast := hstreaming.pixelDotsLeft_eq_zero_iff.mp (by omega)
    obtain ⟨hend, -⟩ := stepDot_of_cursor_eq hplain.1 hlast
    obtain ⟨hcount, -⟩ := stepDot_of_transferring_cases hplain.1
    have hdot := hline.dot
    rw [hn, Nat.add_comm 1, afterSteps_succ]
    exact ⟨hend, by omega⟩

end Sys2Proof.Machine
end

section
/-! Lines and frames (R156, R157, R162, R164, R281): a line counts its dots to 455 and then ends, and the frame is presented at
the end of line 143 alone. Settles O56, O58 and O60. -/

namespace Sys2Proof.Machine

/-! ## A line -/

/-- OAM_SEARCH and PIXEL_TRANSFER are over by dot 331 (R33, R169), so with the display on a line ends at dot 455, whatever
its mode was. -/
theorem Inv.endsLine_iff {s : State} (h : Inv s) (hon : s.lcdc.getLsbD 7 = true) : endsLine s ↔ s.dot = 455 := by
  refine ⟨fun ⟨_, hdot, _⟩ => hdot, fun hdot => ⟨hon, hdot, ?_⟩⟩
  cases hm : s.mode with
  | hblank => exact .inl rfl
  | vblank => exact .inr rfl
  | oamSearch => have := h.oam_dots hm; omega
  | pixelTransfer => have := h.transfer_dots hm; omega

/-- VBLANK is entered and left by the end of a line alone (R157). -/
theorem stepDot_vblank_iff_of_inner {s : State} (hinner : ¬ endsLine s) :
    (stepDot (clearOut s)).mode = .vblank ↔ s.mode = .vblank := by
  cases hpower : lcdOn s with
  | false => rw [stepDot_of_off (s := clearOut s) hpower, clearOut_mode]
  | true =>
    have hblank (hm : s.mode = .hblank ∨ s.mode = .vblank) : (stepDot (clearOut s)).mode = s.mode := by
      rw [stepDot_of_blank_inner hpower hm hinner]
      rfl
    cases hmode : s.mode with
    | hblank => rw [hblank (.inl hmode), hmode]
    | vblank => rw [hblank (.inr hmode), hmode]
    | oamSearch =>
      rw [stepDot_of_search (s := clearOut s) hpower hmode, oamDot]
      split
      · exact iff_of_false nofun nofun
      · exact iff_of_false (by rw [countDot, clearOut_mode, hmode]; nofun) nofun
    | pixelTransfer =>
      obtain ⟨-, hm | ⟨hm, -⟩⟩ := stepDot_of_transferring_cases ⟨hpower, hmode⟩
      · exact iff_of_false (by rw [hm]; nofun) nofun
      · exact iff_of_false (by rw [hm]; nofun) nofun

theorem stepDot_on {s : State} (hon : s.lcdc.getLsbD 7 = true) : (stepDot (clearOut s)).lcdc.getLsbD 7 = true := by
  rw [stepDot_lcdc]
  exact hon

/-- `k` STEPs after dot 0 of a line of the state `s`. -/
structure InLine (s : State) (k : Nat) (t : State) : Prop where
  inv : Inv t
  on : t.lcdc.getLsbD 7 = true
  ly : t.ly = s.ly
  dot : t.dot = k
  vblank : t.mode = .vblank ↔ s.mode = .vblank

theorem InLine.succ {s t : State} {k : Nat} (h : InLine s k t) (hk : k < 455) : InLine s (k + 1) (stepDot (clearOut t)) := by
  have hinner : ¬ endsLine t := fun hends => by
    have hdot := (h.inv.endsLine_iff h.on).mp hends
    have hcount := h.dot
    omega
  refine ⟨h.inv.after_step, stepDot_on h.on, ?_, ?_, (stepDot_vblank_iff_of_inner hinner).trans h.vblank⟩
  · rw [stepDot_ly, if_neg (show ¬ endsLine (clearOut t) from hinner)]
    exact h.ly
  · rw [stepDot_dot_of_inner (s := clearOut t) h.on hinner]
    exact congrArg Nat.succ h.dot

theorem inLine_afterSteps {s : State} (hinv : Inv s) (hon : s.lcdc.getLsbD 7 = true) (hdot : s.dot = 0) {k : Nat}
    (hk : k ≤ 455) : InLine s k (afterSteps k s) := by
  induction k with
  | zero => exact ⟨hinv, hon, rfl, hdot, Iff.rfl⟩
  | succ k ih => exact (ih (Nat.le_of_lt hk)).succ hk

/-- Where a line that ends leads (R157). -/
theorem stepDot_place_of_endsLine {s : State} (hends : endsLine s) :
    (stepDot (clearOut s)).ly = nextLy s.ly ∧ (stepDot (clearOut s)).dot = 0 := by
  rw [stepDot_of_endsLine hends, startLine_ly, startLine_dot]
  exact ⟨rfl, rfl⟩

/-- The mode of the next line (R157), by the three ways to go on. -/
theorem stepDot_mode_of_endsLine {s : State} (hends : endsLine s) :
    (s.mode = .vblank → (stepDot (clearOut s)).mode = if nextLy s.ly = 0 then .oamSearch else .vblank) ∧
      (s.mode ≠ .vblank → (stepDot (clearOut s)).mode = if nextLy s.ly = 144 then .vblank else .oamSearch) := by
  obtain ⟨hm, hly, hnext⟩ | ⟨⟨hm, hly⟩ | ⟨hm, hly⟩, hnext⟩ | ⟨hm, hly, hnext⟩ := stepDot_cases_of_endsLine hends
  · rw [hnext, hm, if_pos hly]
    exact ⟨nofun, fun _ => rfl⟩
  · rw [hnext, hm, if_neg hly]
    exact ⟨nofun, fun _ => rfl⟩
  · rw [hnext, hm, if_pos hly]
    exact ⟨fun _ => rfl, fun hne => absurd rfl hne⟩
  · rw [hnext, hm, if_neg hly]
    exact ⟨fun _ => hm, fun hne => absurd rfl hne⟩

/-- Settles O56: 455 STEPs count to the last dot of the line, and the next one ends it. -/
theorem everyLineTakes456Steps : Obligations.EveryLineTakes456Steps := by
  intro s hinv hon hdot
  have hlast := inLine_afterSteps hinv hon hdot (k := 455) (Nat.le_refl _)
  have hends : endsLine (afterSteps 455 s) := (hlast.inv.endsLine_iff hlast.on).mpr hlast.dot
  obtain ⟨hly, hdot'⟩ := stepDot_place_of_endsLine hends
  obtain ⟨hvblank, hother⟩ := stepDot_mode_of_endsLine hends
  rw [hlast.vblank, hlast.ly] at hvblank
  rw [ne_eq, hlast.vblank, hlast.ly] at hother
  rw [hlast.ly] at hly
  refine ⟨_, execSteps_eq 456 s, ?_⟩
  rw [afterSteps_succ]
  exact ⟨hlast.inv.after_step, hdot', hly, hly ▸ hvblank, hly ▸ hother⟩

/-! ## The frame that is presented -/

theorem InFrame.after_afterSteps {s : State} (h : InFrame s) (n : Nat) :
    InFrame (afterSteps n s) ∧ framePos (afterSteps n s) = (framePos s + n) % 70224 := by
  induction n with
  | zero => exact ⟨h, (Nat.mod_eq_of_lt h.framePos_lt).symm⟩
  | succ n ih =>
    obtain ⟨hframe, hpos⟩ := ih
    refine ⟨hframe.after_step, hframe.framePos_step.trans ?_⟩
    rw [hpos]
    omega

/-- From OAM_SEARCH entry on line 0 the number of STEPs is the place in the frame, until the next such entry. -/
theorem inFrame_afterSteps {s : State} (hinv : Inv s) (hon : s.lcdc.getLsbD 7 = true) (hmode : s.mode = .oamSearch)
    (hly : s.ly = 0) (hdot : s.dot = 0) {k : Nat} (hk : k < 70224) :
    InFrame (afterSteps k s) ∧ framePos (afterSteps k s) = k := by
  have hframe : InFrame s := ⟨hinv, hon, by rw [hmode]; nofun, by rw [hmode]; nofun⟩
  have hzero : framePos s = 0 := hframe.starts_iff.mp ⟨hmode, hly, hdot⟩
  obtain ⟨hframe', hpos⟩ := hframe.after_afterSteps k
  rw [hzero, Nat.zero_add, Nat.mod_eq_of_lt hk] at hpos
  exact ⟨hframe', hpos⟩

/-- Place 65663 is the last dot of line 143, in HBLANK (R162). -/
theorem InFrame.lastDot_of_framePos {s : State} (h : InFrame s) (hpos : framePos s = 65663) :
    endsLine s ∧ s.mode = .hblank ∧ s.ly = 143 := by
  have hdot := h.inv.dot_lt
  unfold framePos at hpos
  have hly : s.ly = 143 := BitVec.eq_of_toNat_eq (show s.ly.toNat = 143 by omega)
  have hends : endsLine s := h.endsLine_iff.mpr (by omega)
  refine ⟨hends, ?_, hly⟩
  obtain ⟨-, -, hm | hm⟩ := hends
  · exact hm
  · have hline := h.vblank_line hm
    omega

theorem framePos_of_lastDot {s : State} (hends : endsLine s) (hly : s.ly = 143) : framePos s = 65663 := by
  obtain ⟨-, hdot, -⟩ := hends
  rw [framePos, hdot, hly]
  rfl

/-- A STEP that does not end line 143 presents nothing (R162). -/
theorem stepDot_presents_nothing {s : State} (h : ¬ (endsLine s ∧ s.mode = .hblank ∧ s.ly = 143)) :
    (stepDot (clearOut s)).out.vblank = false ∧ (stepDot (clearOut s)).out.present = none := by
  obtain ⟨hvblank, hpresent⟩ := stepDot_frameOut s
  have hnone : (stepDot (clearOut s)).out.vblank = false := Bool.eq_false_iff.mpr (mt hvblank.mp h)
  rw [hnone] at hpresent
  exact ⟨hnone, hpresent⟩

/-- The STEP that ends line 143 enters VBLANK with the frame (R160, R162). -/
theorem stepDot_presents {s : State} (h : endsLine s ∧ s.mode = .hblank ∧ s.ly = 143) :
    (stepDot (clearOut s)).out.vblank = true ∧ (stepDot (clearOut s)).out.present = some (stepDot (clearOut s)).fb ∧
      (stepDot (clearOut s)).mode = .vblank ∧ (stepDot (clearOut s)).ly = 144 ∧ (stepDot (clearOut s)).dot = 0 := by
  obtain ⟨hends, hm, hly⟩ := h
  have hline : nextLy s.ly = 144 := nextLy_eq_144_iff.mpr hly
  rw [stepDot_of_endsLine hends, startLine, lineCounted_mode, hm, lineCounted_ly, if_pos hline, enterVblank_out]
  exact ⟨rfl, rfl, rfl, hline, rfl⟩

/-- Settles O58: the STEP after place 65663 ends line 143, and no STEP before it does. -/
theorem frameIsPresentedAfter144Lines : Obligations.FrameIsPresentedAfter144Lines := by
  intro s hinv hon hmode hly hdot
  refine ⟨fun k hk0 hk => ⟨_, execSteps_eq k s, ?_⟩, _, execSteps_eq 65664 s, ?_⟩
  · obtain ⟨j, rfl⟩ := Nat.exists_eq_add_of_le' hk0
    obtain ⟨-, hpos⟩ := inFrame_afterSteps hinv hon hmode hly hdot (k := j) (by omega)
    rw [afterSteps_succ]
    refine stepDot_presents_nothing fun ⟨hends, _, hlast⟩ => ?_
    have hplace := framePos_of_lastDot hends hlast
    omega
  · obtain ⟨hframe, hpos⟩ := inFrame_afterSteps hinv hon hmode hly hdot (k := 65663) (by omega)
    rw [afterSteps_succ]
    exact stepDot_presents (hframe.lastDot_of_framePos hpos)

/-! ## The frame after power-on -/

theorem Inv.framePos_step {s : State} (h : Inv s) (hon : s.lcdc.getLsbD 7 = true) :
    framePos (stepDot (clearOut s)) = (framePos s + 1) % 70224 := by
  have hly := h.ly_le
  have hdot := h.dot_lt
  by_cases hends : endsLine s
  · have hlast := (h.endsLine_iff hon).mp hends
    obtain ⟨hline, hzero⟩ := stepDot_place_of_endsLine hends
    rw [framePos, hline, hzero, toNat_nextLy hly, framePos]
    omega
  · have hinner := mt (h.endsLine_iff hon).mpr hends
    rw [framePos, stepDot_ly, if_neg (show ¬ endsLine (clearOut s) from hends),
      stepDot_dot_of_inner (s := clearOut s) hon hends, clearOut_ly, clearOut_dot, framePos]
    omega

/-- Place `k` of the frame that follows power-on, in which every line is VBLANK (R281). -/
structure BlankFrame (k : Nat) (t : State) : Prop where
  inv : Inv t
  on : t.lcdc.getLsbD 7 = true
  mode : t.mode = .vblank
  place : framePos t = k

/-- Line 0 comes after the last place alone (R157). -/
theorem BlankFrame.last_of_nextLy {t : State} {k : Nat} (h : BlankFrame k t) (hends : endsLine t) (hly : nextLy t.ly = 0) :
    k = 70223 := by
  obtain ⟨-, hdot, -⟩ := hends
  have hle := h.inv.ly_le
  have hwrap := toNat_nextLy hle
  have hplace := h.place
  rw [hly, show (0 : Byte).toNat = 0 from rfl] at hwrap
  unfold framePos at hplace
  omega

theorem BlankFrame.succ {t : State} {k : Nat} (h : BlankFrame k t) (hk : k < 70223) :
    BlankFrame (k + 1) (stepDot (clearOut t)) := by
  refine ⟨h.inv.after_step, stepDot_on h.on, ?_, ?_⟩
  · by_cases hends : endsLine t
    · obtain ⟨hvblank, -⟩ := stepDot_mode_of_endsLine hends
      rw [hvblank h.mode, if_neg fun hly => Nat.ne_of_lt hk (h.last_of_nextLy hends hly)]
    · exact (stepDot_vblank_iff_of_inner hends).mpr h.mode
  · rw [h.inv.framePos_step h.on, h.place]
    exact Nat.mod_eq_of_lt (by omega)

/-- VBLANK is not entered from VBLANK, so nothing is presented (R160). -/
theorem BlankFrame.presents_nothing {t : State} {k : Nat} (h : BlankFrame k t) :
    (stepDot (clearOut t)).out.vblank = false ∧ (stepDot (clearOut t)).out.present = none :=
  stepDot_presents_nothing fun ⟨_, hm, _⟩ => by cases h.mode.symm.trans hm

theorem blankFrame_afterSteps {s : State} (hinv : Inv s) (hon : s.lcdc.getLsbD 7 = true) (hmode : s.mode = .vblank)
    (hly : s.ly = 0) (hdot : s.dot = 0) {k : Nat} (hk : k < 70224) : BlankFrame k (afterSteps k s) := by
  induction k with
  | zero => exact ⟨hinv, hon, hmode, by rw [afterSteps, framePos, hly, hdot]; rfl⟩
  | succ k ih => exact (ih (Nat.lt_of_succ_lt hk)).succ (Nat.lt_of_succ_lt_succ hk)

/-- Settles O60: through place 70223 the line is VBLANK, and its end leads to line 0. -/
theorem powerOnFrameIs154BlankLines : Obligations.PowerOnFrameIs154BlankLines := by
  intro s hinv hon hmode hly hdot
  have hblank {k : Nat} (hk : k < 70224) := blankFrame_afterSteps hinv hon hmode hly hdot hk
  refine ⟨fun k hk0 hk => ⟨_, execSteps_eq k s, (hblank hk).mode, ?_⟩, _, execSteps_eq 70224 s, ?_⟩
  · obtain ⟨j, rfl⟩ := Nat.exists_eq_add_of_le' hk0
    exact (hblank (Nat.lt_of_succ_lt hk)).presents_nothing
  · have hlast := hblank (k := 70223) (by omega)
    have hdotlt := hlast.inv.dot_lt
    have hle := hlast.inv.ly_le
    have hplace := hlast.place
    unfold framePos at hplace
    have hends := (hlast.inv.endsLine_iff hlast.on).mpr (by omega)
    have hzero : nextLy (afterSteps 70223 s).ly = 0 :=
      BitVec.eq_of_toNat_eq (by rw [toNat_nextLy hle, show (0 : Byte).toNat = 0 from rfl]; omega)
    obtain ⟨hly', hdot'⟩ := stepDot_place_of_endsLine hends
    obtain ⟨hvblank, -⟩ := stepDot_mode_of_endsLine hends
    rw [afterSteps_succ]
    exact ⟨(hvblank hlast.mode).trans (if_pos hzero), hly'.trans hzero, hdot', hlast.presents_nothing⟩

end Sys2Proof.Machine
end

section
/-! The presented frame (R163): two runs that begin with different frame buffers differ in the frame buffer alone, agree on every
pixel the frame has drawn so far, and by the end of line 143 have drawn every pixel. Settles O59. -/

namespace Sys2Proof.Machine

/-! ## A STEP on two frame buffers -/

theorem clearOut_setFb (f : Memory 2) (s : State) : clearOut (setFb f s) = setFb f (clearOut s) := rfl

theorem oamDot_setFb (f : Memory 2) (s : State) : oamDot (setFb f s) = setFb f (oamDot s) := by
  rw [oamDot, oamDot, apply_ite (setFb f)]
  rfl

theorem afterTransfer_countDot_setFb (f : Memory 2) (s : State) :
    afterTransfer (countDot (setFb f s)) = setFb f (afterTransfer (countDot s)) := by
  rw [afterTransfer, afterTransfer, apply_ite (setFb f), apply_ite (setFb f)]
  rfl

theorem startLine_of_hblank {s : State} (hm : s.mode = .hblank) :
    startLine s = if s.ly = 144 then enterVblank s else enterOam s := by
  rw [startLine, hm]

theorem startLine_of_not_hblank {s : State} (hm : s.mode ≠ .hblank) :
    startLine s = if s.ly = 0 then enterOam s else s := by
  unfold startLine
  split
  next h => exact absurd h hm
  next => rfl

/-- A line that does not begin with VBLANK entry begins the same whatever the frame buffer holds (R157). -/
theorem startLine_setFb {s : State} (h : ¬ (s.mode = .hblank ∧ s.ly = 144)) (f : Memory 2) :
    startLine (setFb f s) = setFb f (startLine s) := by
  by_cases hm : s.mode = .hblank
  · have hly : s.ly ≠ 144 := fun hly => h ⟨hm, hly⟩
    rw [startLine_of_hblank hm, startLine_of_hblank (s := setFb f s) hm, if_neg hly]
    exact if_neg hly
  · rw [startLine_of_not_hblank hm, startLine_of_not_hblank (s := setFb f s) hm, apply_ite (setFb f)]
    rfl

theorem stepDot_setFb_of_endsLine {s : State} (hends : endsLine s) (h : ¬ (s.mode = .hblank ∧ s.ly = 143)) (f : Memory 2) :
    stepDot (clearOut (setFb f s)) = setFb f (stepDot (clearOut s)) := by
  have hcounted : lineCounted (setFb f s) = setFb f (lineCounted s) := rfl
  rw [stepDot_of_endsLine hends, stepDot_of_endsLine (s := setFb f s) hends, hcounted]
  exact startLine_setFb (s := lineCounted s) (fun ⟨hm, hly⟩ => h ⟨hm, nextLy_eq_144_iff.mp hly⟩) f

theorem stepDot_setFb_of_not_transferring {s : State} (htransfer : ¬ transferring s)
    (h : ¬ (endsLine s ∧ s.mode = .hblank ∧ s.ly = 143)) (f : Memory 2) :
    stepDot (clearOut (setFb f s)) = setFb f (stepDot (clearOut s)) := by
  by_cases hends : endsLine s
  · exact stepDot_setFb_of_endsLine hends (fun hlast => h ⟨hends, hlast⟩) f
  cases hpower : lcdOn s with
  | false => rw [stepDot_of_off (s := clearOut s) hpower, stepDot_of_off (s := clearOut (setFb f s)) hpower, clearOut_setFb]
  | true =>
    have hblank (hm : s.mode = .hblank ∨ s.mode = .vblank) :
        stepDot (clearOut (setFb f s)) = setFb f (stepDot (clearOut s)) := by
      rw [stepDot_of_blank_inner hpower hm hends, stepDot_of_blank_inner (s := setFb f s) hpower hm hends]
      rfl
    cases hmode : s.mode with
    | hblank => exact hblank (.inl hmode)
    | vblank => exact hblank (.inr hmode)
    | oamSearch =>
      rw [stepDot_of_search (s := clearOut s) hpower hmode, stepDot_of_search (s := clearOut (setFb f s)) hpower hmode,
        clearOut_setFb, oamDot_setFb]
    | pixelTransfer => exact absurd ⟨hpower, hmode⟩ htransfer

theorem stepDot_draws_of_transferring {s : State} (h : transferring s) :
    DrawsAtCursor (fun u => stepDot (clearOut u)) s := by
  have heq (f : Memory 2) :
      stepDot (clearOut (setFb f s)) = afterTransfer (countDot (transferDot (setFb f (clearOut s)))) :=
    stepDot_of_transferring (s := setFb f s) h
  dsimp only [DrawsAtCursor]
  obtain ⟨hdraw, hcursor⟩ | ⟨shade, hdraw, hcursor⟩ := transferDot_draws (clearOut s)
  · refine .inl ⟨fun f => ?_, (stepDot_cursor h).trans hcursor⟩
    rw [heq, hdraw, afterTransfer_countDot_setFb, stepDot_of_transferring h]
  · refine .inr ⟨shade, fun f => ?_, (stepDot_cursor h).trans hcursor⟩
    rw [heq, hdraw, afterTransfer_countDot_setFb, stepDot_of_transferring h]
    rfl

/-! ## The pixels drawn so far -/

/-- The pixels of its line the mode says are drawn; VBLANK draws none. -/
def rowDrawn (s : State) : Nat :=
  match s.mode with
  | .oamSearch => 0
  | .pixelTransfer => s.cursor
  | .hblank => 160
  | .vblank => 0

/-- The pixels of the frame drawn so far, in the order of their cells (R43, R245). -/
def drawn (s : State) : Nat := 160 * s.ly.toNat + rowDrawn s

theorem drawn_of_search {s : State} (h : s.mode = .oamSearch) : drawn s = 160 * s.ly.toNat := by
  rw [drawn, rowDrawn, h]
  rfl

theorem drawn_of_transfer {s : State} (h : s.mode = .pixelTransfer) : drawn s = pixelKey s.ly s.cursor := by
  rw [drawn, rowDrawn, h, pixelKey]

theorem drawn_of_hblank {s : State} (h : s.mode = .hblank) : drawn s = 160 * s.ly.toNat + 160 := by
  rw [drawn, rowDrawn, h]

theorem stepDot_ly_of_inner {s : State} (hinner : ¬ endsLine s) : (stepDot (clearOut s)).ly = s.ly := by
  rw [stepDot_ly, if_neg (show ¬ endsLine (clearOut s) from hinner), clearOut_ly]

/-- After a PIXEL_TRANSFER dot the line is drawn up to the cursor, whether the dot ended the line's transfer or not (R155). -/
theorem drawn_stepDot_of_transferring {s : State} (h : transferring s) :
    drawn (stepDot (clearOut s)) = 160 * s.ly.toNat + (stepDot (clearOut s)).cursor := by
  have hly := stepDot_ly_of_inner (not_endsLine_of_transfer h.2)
  obtain ⟨-, hmode | ⟨hmode, hcursor⟩⟩ := stepDot_of_transferring_cases h
  · rw [drawn_of_transfer hmode, hly, pixelKey]
  · rw [drawn_of_hblank hmode, hly, hcursor]

/-- Outside PIXEL_TRANSFER nothing is drawn: OAM_SEARCH enters a transfer at column 0, and a line that ends, having drawn its
160 pixels, is followed by the next (R153, R157). -/
theorem InFrame.drawn_stepDot_of_not_transferring {s : State} (h : InFrame s) (htransfer : ¬ transferring s)
    (hplace : framePos s < 65663) : drawn (stepDot (clearOut s)) = drawn s := by
  have hline : s.ly.toNat ≤ 143 := by
    unfold framePos at hplace
    omega
  cases hmode : s.mode with
  | oamSearch =>
    have hly := stepDot_ly_of_inner (s := s) fun ⟨_, _, hm⟩ => by rcases hm with hm | hm <;> cases hmode.symm.trans hm
    rw [drawn_of_search hmode]
    rw [stepDot_of_search (s := clearOut s) h.on hmode, oamDot] at hly ⊢
    split at hly
    next hlast => rw [if_pos hlast, drawn_of_transfer rfl, hly]; rfl
    next hinner => rw [if_neg hinner, drawn_of_search (s := countDot (clearOut s)) hmode, hly]
  | pixelTransfer => exact absurd ⟨h.on, hmode⟩ htransfer
  | vblank =>
    have hvblank := h.vblank_line hmode
    omega
  | hblank =>
    rw [drawn_of_hblank hmode]
    by_cases hends : endsLine s
    · have hdot := h.endsLine_iff.mp hends
      have hnext : (nextLy s.ly).toNat = s.ly.toNat + 1 := by
        rw [toNat_nextLy h.inv.ly_le]
        omega
      have hne : nextLy s.ly ≠ 144 := fun hly => by
        have hplace' := framePos_of_lastDot hends (nextLy_eq_144_iff.mp hly)
        omega
      obtain ⟨hly, -⟩ := stepDot_place_of_endsLine hends
      obtain ⟨-, hsearch⟩ := stepDot_mode_of_endsLine hends
      have hmode' := (hsearch (by rw [hmode]; nofun)).trans (if_neg hne)
      rw [drawn_of_search hmode', hly, hnext]
      omega
    · rw [stepDot_of_blank_inner h.on (.inl hmode) hends]
      exact drawn_of_hblank hmode

/-! ## Two runs -/

/-- A frame buffer that can stand in for the state's: canonical, and the same on the pixels of the frame drawn so far. -/
structure DrawnAlike (f : Memory 2) (t : State) : Prop where
  frame : InFrame t
  wf : Memory.wf Config.fbSize f
  agree : ∀ p < drawn t, Memory.read t.fb p = Memory.read f p

/-- A STEP that leaves both frame buffers leaves what is drawn. -/
theorem DrawnAlike.after_kept {f : Memory 2} {t : State} (h : DrawnAlike f t)
    (hsame : ∀ f, stepDot (clearOut (setFb f t)) = setFb f (stepDot (clearOut t)))
    (hdrawn : drawn (stepDot (clearOut t)) = drawn t) : DrawnAlike f (stepDot (clearOut t)) := by
  have hfb : (stepDot (clearOut t)).fb = t.fb := (congrArg State.fb (hsame t.fb) :)
  refine ⟨h.frame.after_step, h.wf, ?_⟩
  rw [hdrawn, hfb]
  exact h.agree

/-- A STEP that stores the next pixel stores it in both. -/
theorem DrawnAlike.after_pixel {f : Memory 2} {t : State} {shade : Shade} (h : DrawnAlike f t) (htransfer : transferring t)
    (hdraw : ∀ f, stepDot (clearOut (setFb f t)) =
      setFb (Memory.write f (pixelKey t.ly t.cursor) shade) (stepDot (clearOut t)))
    (hcursor : (stepDot (clearOut t)).cursor = t.cursor + 1) :
    DrawnAlike (Memory.write f (pixelKey t.ly t.cursor) shade) (stepDot (clearOut t)) := by
  have hfb : (stepDot (clearOut t)).fb = Memory.write t.fb (pixelKey t.ly t.cursor) shade :=
    (congrArg State.fb (hdraw t.fb) :)
  have hnow := drawn_of_transfer htransfer.2
  have hmore : drawn (stepDot (clearOut t)) = drawn t + 1 := by
    rw [drawn_stepDot_of_transferring htransfer, hcursor, hnow, pixelKey]
    rfl
  obtain ⟨-, hlt, -⟩ := h.frame.inv.transfer_dots htransfer.2
  have hline := h.frame.inv.visible_line (by rw [htransfer.2]; nofun)
  obtain ⟨hsorted, -⟩ := id h.frame.inv.fb_wf
  obtain ⟨hsorted', -⟩ := id h.wf
  refine ⟨h.frame.after_step, Memory.write_wf shade h.wf (pixelKey_lt hline hlt), fun p hp => ?_⟩
  rw [hfb, Memory.read_write _ _ _ _ hsorted, Memory.read_write _ _ _ _ hsorted', ← hnow]
  split
  · rfl
  · exact h.agree p (by omega)

/-- Before the frame is presented, a STEP takes two such frame buffers to two such frame buffers. -/
theorem DrawnAlike.step {f : Memory 2} {t : State} (h : DrawnAlike f t) (hplace : framePos t < 65663) :
    ∃ g, stepDot (clearOut (setFb f t)) = setFb g (stepDot (clearOut t)) ∧ DrawnAlike g (stepDot (clearOut t)) := by
  by_cases htransfer : transferring t
  · have hdraws := stepDot_draws_of_transferring htransfer
    dsimp only [DrawsAtCursor] at hdraws
    obtain ⟨hsame, hcursor⟩ | ⟨shade, hdraw, hcursor⟩ := hdraws
    · have hdrawn : drawn (stepDot (clearOut t)) = drawn t := by
        rw [drawn_stepDot_of_transferring htransfer, hcursor, drawn_of_transfer htransfer.2, pixelKey]
      exact ⟨f, hsame f, h.after_kept hsame hdrawn⟩
    · exact ⟨_, hdraw f, h.after_pixel htransfer hdraw hcursor⟩
  · have hnot : ¬ (endsLine t ∧ t.mode = .hblank ∧ t.ly = 143) := fun ⟨hends, _, hly⟩ => by
      have hlast := framePos_of_lastDot hends hly
      omega
    have hsame := stepDot_setFb_of_not_transferring htransfer hnot
    exact ⟨f, hsame f, h.after_kept hsame (h.frame.drawn_stepDot_of_not_transferring htransfer hplace)⟩

theorem drawnAlike_afterSteps {s : State} {old : Memory 2} (hinv : Inv s) (hold : Memory.wf Config.fbSize old)
    (hon : s.lcdc.getLsbD 7 = true) (hmode : s.mode = .oamSearch) (hly : s.ly = 0) (hdot : s.dot = 0) {k : Nat}
    (hk : k ≤ 65663) :
    ∃ f, afterSteps k (setFb old s) = setFb f (afterSteps k s) ∧ DrawnAlike f (afterSteps k s) := by
  induction k with
  | zero =>
    obtain ⟨hframe, -⟩ := inFrame_afterSteps hinv hon hmode hly hdot (k := 0) (by omega)
    refine ⟨old, rfl, hframe, hold, fun p (hp : p < drawn s) => ?_⟩
    rw [drawn_of_search hmode, hly] at hp
    exact absurd hp (Nat.not_lt_zero p)
  | succ k ih =>
    obtain ⟨-, hpos⟩ := inFrame_afterSteps hinv hon hmode hly hdot (k := k) (by omega)
    obtain ⟨f, heq, halike⟩ := ih (Nat.le_of_lt hk)
    rw [afterSteps_succ, afterSteps_succ, heq]
    exact halike.step (by omega)

/-- A canonical store lists no cell from its size on. -/
theorem Memory.read_of_size_le {w size : Nat} {m : Memory w} (hm : Memory.wf size m) {a : Nat} (ha : size ≤ a) :
    Memory.read m a = Config.unlisted w := by
  obtain ⟨-, hcells⟩ := hm
  induction m with
  | nil => rfl
  | cons c rest ih =>
    obtain ⟨hlt, -⟩ := hcells c List.mem_cons_self
    rw [Memory.read, if_neg (by omega)]
    exact ih fun e he => hcells e (List.mem_cons_of_mem c he)

/-- Once every pixel is drawn, no other frame buffer can stand in for the state's. -/
theorem DrawnAlike.eq_of_all_drawn {f : Memory 2} {t : State} (h : DrawnAlike f t) (hall : drawn t = Config.fbSize) :
    f = t.fb :=
  Memory.ext_of_read h.wf h.frame.inv.fb_wf fun a => by
    by_cases ha : a < Config.fbSize
    · exact (h.agree a (hall ▸ ha)).symm
    · rw [Memory.read_of_size_le h.frame.inv.fb_wf (Nat.le_of_not_lt ha), Memory.read_of_size_le h.wf (Nat.le_of_not_lt ha)]

/-- Settles O59: at the last dot of line 143 the two runs are in the same state. -/
theorem presentedFrameForgetsTheOldFrameBuffer : Obligations.PresentedFrameForgetsTheOldFrameBuffer := by
  intro s old hinv hold hon hmode hly hdot
  obtain ⟨hframe, hpos⟩ := inFrame_afterSteps hinv hon hmode hly hdot (k := 65663) (by omega)
  have hlast := hframe.lastDot_of_framePos hpos
  obtain ⟨f, hother, halike⟩ := drawnAlike_afterSteps hinv hold hon hmode hly hdot (k := 65663) (Nat.le_refl _)
  have hall : drawn (afterSteps 65663 s) = Config.fbSize := by
    obtain ⟨-, hm, hline⟩ := hlast
    rw [drawn_of_hblank hm, hline]
    rfl
  have heq : afterSteps 65664 s = afterSteps 65664 (setFb old s) := by
    rw [afterSteps_succ 65663 s, afterSteps_succ 65663 (setFb old s), hother, halike.eq_of_all_drawn hall, setFb_fb]
  obtain ⟨-, hpresent, -⟩ := stepDot_presents hlast
  refine ⟨_, _, execSteps_eq 65664 s, execSteps_eq 65664 (setFb old s), ?_, congrArg (fun t => t.out.present) heq⟩
  rw [afterSteps_succ 65663 s, hpresent]
  rfl

end Sys2Proof.Machine
end
